-- ==== Sys2Proof/Word.lean ====
section
/-! DEFINITION. The widths of the engine's words (spec/00_scope.md R4): positions, limits, clock samples and operands are
32 bits, speed, interval and responses 64, a command word 40. -/

namespace Sys2Proof

/-- A 32-bit pattern: `POS`, `TGT`, the three limits, `LST`, an operand, a clock sample (R4 `POS_W`, `CLK_W`). -/
abbrev Word := BitVec 32

/-- A 64-bit pattern: `SPD`, `IVL`, a response (R4 `SPD_W`, `IVL_W`, `RSP_W`). -/
abbrev DWord := BitVec 64

/-- A 40-bit command word (R4 `CMD_W`; R60). -/
abbrev CmdWord := BitVec 40

/-- The 8-bit opcode field of a command word (R60). -/
abbrev OpcodeField := BitVec 8

end Sys2Proof
end

