-- ==== Sys2Proof/Syntax.lean ====
section
/-! DEFINITION. The command set (spec/30_encoding.md R61, R63): the five operand formats, the nineteen mnemonics, one
constructor of `Instr` per row of the opcode table, and a command line as R67 writes one. -/

namespace Sys2Proof

/-- R61: how the operand field is read. -/
inductive Format where
  | N  -- operand ignored
  | I  -- two's-complement integer, steps
  | U  -- UQ16.16
  | S  -- SQ15.16
  | Q  -- operand ignored, a 64-bit response is returned
deriving DecidableEq, Repr

/-- The nineteen commands of R63. The 32-bit operand is kept as the bits the word holds; formats N and Q carry none, because
their operand bits are ignored (R65). -/
inductive Instr where
  | setMaxSpeed (vFx : Word)
  | setAccel (aFx : Word)
  | setDecel (dFx : Word)
  | enable
  | disable
  | moveTo (p : Word)
  | moveRel (d : Word)
  | rotateDeg (degFx : Word)
  | rotateRev (revFx : Word)
  | stop
  | estop
  | run
  | isRunning
  | getDist
  | getPos
  | getSpeed
  | getStatus
  | setHome
  | goHome
deriving DecidableEq, Repr

/-- The nineteen mnemonics of R63, without operands. -/
inductive Mnemonic where
  | setMaxSpeed | setAccel | setDecel | enable | disable
  | moveTo | moveRel | rotateDeg | rotateRev | stop | estop
  | run
  | isRunning | getDist | getPos | getSpeed | getStatus
  | setHome | goHome
deriving DecidableEq, Repr

/-- R67: the operand forms of a command line. `fx n d` is `fx(r)` for the decimal real `r = n / 10^d`. -/
inductive Operand where
  | absent
  | integer (k : Int)
  | pattern (p : Nat)
  | fx (n : Int) (d : Nat)
deriving DecidableEq, Repr

/-- R67: one command line, a mnemonic with its operand. -/
structure Line where
  mnemonic : Mnemonic
  operand  : Operand
deriving DecidableEq, Repr

end Sys2Proof
end

