-- ==== Sys2Proof/WellFormed.lean ====
section
/-! DEFINITION. Well-formedness. R65: in formats I, U and S all 32 operand bits are significant and every pattern is a legal
encoding, and formats N and Q carry no operand; so an `Instr` has nothing left to check, its operand's type is its width.
What can be ill formed is a command as it is WRITTEN (spec/30_encoding.md R67): its operand may be missing, may stand where none
is read, may lie outside the format's range, or may be a real that is not exactly representable. -/

namespace Sys2Proof

/-- R63: the format of each mnemonic. -/
def Mnemonic.format : Mnemonic → Format
  | .setMaxSpeed => .U
  | .setAccel    => .U
  | .setDecel    => .U
  | .enable      => .N
  | .disable     => .N
  | .moveTo      => .I
  | .moveRel     => .I
  | .rotateDeg   => .S
  | .rotateRev   => .S
  | .stop        => .N
  | .estop       => .N
  | .run         => .N
  | .isRunning   => .Q
  | .getDist     => .Q
  | .getPos      => .Q
  | .getSpeed    => .Q
  | .getStatus   => .Q
  | .setHome     => .N
  | .goHome      => .N

/-- R61, R62: the integers an operand of each format can stand for; none for the formats that ignore it. -/
def Format.inRange : Format → Int → Bool
  | .N, _ => false
  | .Q, _ => false
  | .U, v => decide (0 ≤ v ∧ v < 2 ^ 32)
  | .I, v => decide (-2 ^ 31 ≤ v ∧ v ≤ 2 ^ 31 - 1)
  | .S, v => decide (-2 ^ 31 ≤ v ∧ v ≤ 2 ^ 31 - 1)

/-- R67: may this operand stand in a command of this format? An `fx()` operand must be exactly representable and in the format's
range, so that no rounding is ever implied. That a decimal integer outside the format's range is rejected too is a DESIGN CHOICE
(log 16): R67 gives a range to `fx()` only. Which operand forms a format takes, and the bound of a pattern, are log 12's. -/
def Operand.fits (f : Format) : Operand → Bool
  | .absent    => f == .N || f == .Q
  | .integer k => f.inRange k
  | .pattern p => (f == .U || f == .I || f == .S) && decide (p < 2 ^ 32)
  | .fx n d    => decide (n * 65536 % (10 : Int) ^ d = 0) && f.inRange (n * 65536 / (10 : Int) ^ d)

/-- R67: a line the assembler accepts. -/
def Line.wellFormed (l : Line) : Bool := l.operand.fits l.mnemonic.format

end Sys2Proof
end

