-- ==== Sys2Proof/Decode.lean ====
section
/-! DEFINITION. Command words (spec/30_encoding.md): the two fields (R60), the opcode map (R63), the total decoder with its
rejection by name (R64, R69), the encoder (R69), the assembler (R67), and the opcode table with match and mask (R63). -/

namespace Sys2Proof

/-- R69: what decoding answers: exactly one command, or `Illegal` with the opcode that names none. -/
inductive Decoded where
  | command (i : Instr)
  | illegal (op : OpcodeField)
deriving DecidableEq, Repr

/-- R60: `cmd_word[39:32]`. -/
def opcodeField (w : CmdWord) : OpcodeField := w.extractLsb' 32 8

/-- R60, R62: `cmd_word[31:0]`, taken as it stands. -/
def operandField (w : CmdWord) : Word := w.extractLsb' 0 32

/-- R63, R64, R65: the command an opcode and an operand select. -/
def decodeFields (op : OpcodeField) (opnd : Word) : Decoded :=
  match op with
  | 0x10#8 => .command (.setMaxSpeed opnd)
  | 0x11#8 => .command (.setAccel opnd)
  | 0x12#8 => .command (.setDecel opnd)
  | 0x18#8 => .command .enable
  | 0x19#8 => .command .disable
  | 0x20#8 => .command (.moveTo opnd)
  | 0x21#8 => .command (.moveRel opnd)
  | 0x22#8 => .command (.rotateDeg opnd)
  | 0x23#8 => .command (.rotateRev opnd)
  | 0x28#8 => .command .stop
  | 0x29#8 => .command .estop
  | 0x30#8 => .command .run
  | 0x40#8 => .command .isRunning
  | 0x41#8 => .command .getDist
  | 0x42#8 => .command .getPos
  | 0x43#8 => .command .getSpeed
  | 0x44#8 => .command .getStatus
  | 0x50#8 => .command .setHome
  | 0x51#8 => .command .goHome
  | _      => .illegal op

/-- R69: `decode(w)`, total on all 2^40 words. -/
def decode (w : CmdWord) : Decoded := decodeFields (opcodeField w) (operandField w)

/-- R63: the mnemonic of a command. -/
def mnemonicOf : Instr → Mnemonic
  | .setMaxSpeed _ => .setMaxSpeed
  | .setAccel _    => .setAccel
  | .setDecel _    => .setDecel
  | .enable        => .enable
  | .disable       => .disable
  | .moveTo _      => .moveTo
  | .moveRel _     => .moveRel
  | .rotateDeg _   => .rotateDeg
  | .rotateRev _   => .rotateRev
  | .stop          => .stop
  | .estop         => .estop
  | .run           => .run
  | .isRunning     => .isRunning
  | .getDist       => .getDist
  | .getPos        => .getPos
  | .getSpeed      => .getSpeed
  | .getStatus     => .getStatus
  | .setHome       => .setHome
  | .goHome        => .goHome

/-- R63: the opcode of each mnemonic. -/
def opcodeOf : Mnemonic → OpcodeField
  | .setMaxSpeed => 0x10#8
  | .setAccel    => 0x11#8
  | .setDecel    => 0x12#8
  | .enable      => 0x18#8
  | .disable     => 0x19#8
  | .moveTo      => 0x20#8
  | .moveRel     => 0x21#8
  | .rotateDeg   => 0x22#8
  | .rotateRev   => 0x23#8
  | .stop        => 0x28#8
  | .estop       => 0x29#8
  | .run         => 0x30#8
  | .isRunning   => 0x40#8
  | .getDist     => 0x41#8
  | .getPos      => 0x42#8
  | .getSpeed    => 0x43#8
  | .getStatus   => 0x44#8
  | .setHome     => 0x50#8
  | .goHome      => 0x51#8

/-- R65, R69: the operand bits of a command's encoding, 0 for formats N and Q. -/
def operandOf : Instr → Word
  | .setMaxSpeed v => v
  | .setAccel a    => a
  | .setDecel d    => d
  | .moveTo p      => p
  | .moveRel d     => d
  | .rotateDeg d   => d
  | .rotateRev r   => r
  | .enable        => 0#32
  | .disable       => 0#32
  | .stop          => 0#32
  | .estop         => 0#32
  | .run           => 0#32
  | .isRunning     => 0#32
  | .getDist       => 0#32
  | .getPos        => 0#32
  | .getSpeed      => 0#32
  | .getStatus     => 0#32
  | .setHome       => 0#32
  | .goHome        => 0#32

/-- R60, R69: `{op, operand}`, the opcode in the high bits. -/
def wordOf (m : Mnemonic) (opnd : Word) : CmdWord := opcodeOf m ++ opnd

/-- R69: `encode`. -/
def encode (i : Instr) : CmdWord := wordOf (mnemonicOf i) (operandOf i)

/-- R67: the operand pattern of a line's operand; formats N and Q assemble to zeros (R65). -/
def operandPattern : Operand → Word
  | .absent    => 0#32
  | .integer k => BitVec.ofInt 32 k
  | .pattern p => BitVec.ofNat 32 p
  | .fx n d    => BitVec.ofInt 32 (n * 65536 / (10 : Int) ^ d)

/-- R67, R68: every well-formed line assembles to exactly one word; the assembler rejects the others. -/
def assemble (l : Line) : Option CmdWord :=
  if l.wellFormed then some (wordOf l.mnemonic (operandPattern l.operand)) else none

/-- One row of the opcode table with its `match` (here `pattern`) and `mask` (R63). -/
structure TableRow where
  mnemonic : Mnemonic
  format   : Format
  pattern  : CmdWord
  mask     : CmdWord
deriving DecidableEq, Repr

/-- The table of R63, row by row, as it is printed there. -/
def opcodeTable : List TableRow := [
  ⟨.setMaxSpeed, .U, 0x1000000000#40, 0xFF00000000#40⟩,
  ⟨.setAccel,    .U, 0x1100000000#40, 0xFF00000000#40⟩,
  ⟨.setDecel,    .U, 0x1200000000#40, 0xFF00000000#40⟩,
  ⟨.enable,      .N, 0x1800000000#40, 0xFF00000000#40⟩,
  ⟨.disable,     .N, 0x1900000000#40, 0xFF00000000#40⟩,
  ⟨.moveTo,      .I, 0x2000000000#40, 0xFF00000000#40⟩,
  ⟨.moveRel,     .I, 0x2100000000#40, 0xFF00000000#40⟩,
  ⟨.rotateDeg,   .S, 0x2200000000#40, 0xFF00000000#40⟩,
  ⟨.rotateRev,   .S, 0x2300000000#40, 0xFF00000000#40⟩,
  ⟨.stop,        .N, 0x2800000000#40, 0xFF00000000#40⟩,
  ⟨.estop,       .N, 0x2900000000#40, 0xFF00000000#40⟩,
  ⟨.run,         .N, 0x3000000000#40, 0xFF00000000#40⟩,
  ⟨.isRunning,   .Q, 0x4000000000#40, 0xFF00000000#40⟩,
  ⟨.getDist,     .Q, 0x4100000000#40, 0xFF00000000#40⟩,
  ⟨.getPos,      .Q, 0x4200000000#40, 0xFF00000000#40⟩,
  ⟨.getSpeed,    .Q, 0x4300000000#40, 0xFF00000000#40⟩,
  ⟨.getStatus,   .Q, 0x4400000000#40, 0xFF00000000#40⟩,
  ⟨.setHome,     .N, 0x5000000000#40, 0xFF00000000#40⟩,
  ⟨.goHome,      .N, 0x5100000000#40, 0xFF00000000#40⟩]

/-- R63: a word `w` selects a row when `w and mask = match`. -/
def TableRow.selects (r : TableRow) (w : CmdWord) : Bool := w &&& r.mask == r.pattern

/-- The instruction the decoder reads from a word of the opcode table, of which `nbits` bits are given (40 in every row). The
word is one 40-bit number, bit 0 its least significant bit, as R63 prints it; there is no byte order to apply (R49; log 10). -/
def decodeTableWord (nbits w : Nat) : Option Instr :=
  match decode (BitVec.ofNat 40 (w % 2 ^ nbits)) with
  | .command i => some i
  | .illegal _ => none

end Sys2Proof
end

