-- ==== Sys2Proof/Machine/Operands.lean ====
section
/-! DEFINITION. The readings of operands and registers and the arithmetic of spec/00_scope.md R5: two's complement, modular and
truncating operations over the unbounded integers, and the range test of R91-R93. -/

namespace Sys2Proof.Machine

/-- `INT_MIN` (R5). -/
def intMin : Int := -2 ^ 31

/-- `INT_MAX` (R5). -/
def intMax : Int := 2 ^ 31 - 1

/-- `s32(w)`: a 32-bit pattern read as two's complement (R5; formats I and S, R61, R62). -/
def s32 (w : Word) : Int := if w.toNat < 2 ^ 31 then (w.toNat : Int) else (w.toNat : Int) - 2 ^ 32

/-- The unsigned reading of a 32-bit pattern (format U, R61, R62; `spr_i` and `gear_i`, R47). -/
def uq (w : Word) : Nat := w.toNat

/-- `u32(v) = v mod 2^32` as a register pattern (R5). -/
def u32 (v : Int) : Word := BitVec.ofInt 32 v

/-- `trunc0(n, d)`: the quotient truncated toward zero (R5). -/
def trunc0 (n : Int) (d : Nat) : Int := if 0 ≤ n then n / (d : Int) else -((-n) / (d : Int))

/-- `sext_64(v)` (R5; signed responses, R44). -/
def sext64 (v : Int) : DWord := BitVec.ofInt 64 v

/-- `zext_64(v)` (R5; unsigned responses, R44). -/
def zext64 (v : Nat) : DWord := BitVec.ofNat 64 v

/-- Does a step count or a target fit 32 bits (R91-R93)? -/
def fits32 (v : Int) : Bool := decide (intMin ≤ v ∧ v ≤ intMax)

/-- R108: `elapsed = u32(now - LST)`, exact across one wrap of the clock. -/
def elapsed (now lst : Word) : Nat := (u32 ((now.toNat : Int) - (lst.toNat : Int))).toNat

/-- R92: the step count of an angle in degrees; the product is exact, the one rounding is toward zero. -/
def degreeSteps (degFx spr gear : Word) : Int :=
  trunc0 (s32 degFx * (uq spr : Int) * (uq gear : Int)) (360 * 2 ^ 32)

/-- R93: the step count of an angle in revolutions. -/
def revolutionSteps (revFx spr gear : Word) : Int :=
  trunc0 (s32 revFx * (uq spr : Int) * (uq gear : Int)) (2 ^ 32)

end Sys2Proof.Machine
end

