-- ==== Sys2Proof/Config.lean ====
section
/-! DEFINITION. The parameters of spec/00_scope.md R4, and the one value the spec leaves without a meaning (log 6). The open
parameter `FLOOR_SPEED_FX` is an argument here; State carries its value (log 1). -/

namespace Sys2Proof.Config

/-- `FX = 2^FRAC`, the fixed-point scale, with 16 fraction bits (R4, R6). -/
def fx : Nat := 2 ^ 16

/-- `SU = FX * 10^6`: speed units per step/s (R4). -/
def su : Nat := fx * 10 ^ 6

/-- `BK = FX * 10^12`: numerator of the interval division and factor of the braking comparison (R4). -/
def bk : Nat := fx * 10 ^ 12

/-- Default of the open parameter `FLOOR_SPEED_FX`: 50.0 step/s in UQ16.16 (R4; DESIGN CHOICE, log 1). -/
def defaultFloorFx : Word := 0x00320000#32

/-- `S_FLOOR = FLOOR_SPEED_FX * 10^6`, the floor speed in `SPD` units (R4). -/
def sFloor (floorFx : Word) : Nat := 10 ^ 6 * floorFx.toNat

/-- `I_RESET = BK div S_FLOOR`, the reset value of `IVL` (R4). R4 requires `FLOOR_SPEED_FX >= 1`. -/
def iReset (floorFx : Word) : Nat := bk / sFloor floorFx

/-- DESIGN CHOICE, log 6: `a div 0`, which R5 does not define. A FREE VALUE: it has no body, so nothing can be proved about it.
R110 shows that no reachable state asks for it. The argument is the dividend. -/
opaque quotientByZero : Nat → DWord

end Sys2Proof.Config
end

