-- ==== Sys2Proof/Machine/State.lean ====
section
/-! DEFINITION. The state of the Motion Profile Engine (spec/10_state.md R10, R26), the levels on its ports
(spec/20_memory.md R42), the environment's pending inputs, and the state right after reset (R30, R170). -/

namespace Sys2Proof.Machine

/-- R26: an event issued to the Pulse Driver. -/
inductive Event where
  | setDir (b : Bool)
  | pulse
deriving DecidableEq, Repr

/-- R141: the four faults of the engine, each a sticky bit of `FLT`. -/
inductive FaultBit where
  | illegalCmd
  | cfgValue
  | unconfigured
  | range
deriving DecidableEq, Repr

/-- R25: the four phases of the profile, a derived view. -/
inductive Phase where
  | idle
  | accelerating
  | cruising
  | decelerating
deriving DecidableEq, Repr

/-- R10: the twelve registers by name. -/
inductive Reg where
  | POS | TGT | SPD | VMAX | ACC | DEC | IVL | LST | EN | MOV | DIR | FLT
deriving DecidableEq, Repr

/-- R1, R27: the three sub-blocks, and the control flags around them. A description only: no rule depends on it. -/
inductive SubBlock where
  | positionAccumulator
  | speedRampController
  | stepTimingScheduler
  | control
deriving DecidableEq, Repr

/-- R42: the levels on the engine's input ports. -/
structure Ports where
  rst      : Bool
  cmdValid : Bool
  cmdWord  : CmdWord
  nowUs    : Word
  spr      : Word
  gear     : Word
  drvBusy  : Bool
deriving DecidableEq, Repr

/-- R158: what the outside world does to the input ports, one change each (log 2). -/
inductive Stimulus where
  /-- The host presents a command word on the command port (R43). -/
  | command (w : CmdWord)
  /-- The host takes `cmd_valid` back to 0 (R43). -/
  | withdraw
  /-- The microsecond counter shows `t` (R45). -/
  | clock (t : Word)
  /-- The Step Geometry Table supplies steps per revolution (R47). -/
  | stepsPerRev (v : Word)
  /-- The gear ratio input shows `v`, UQ16.16 (R47). -/
  | gearRatio (v : Word)
  /-- The Pulse Driver drives `drv_busy_i` (R46). -/
  | driverBusy (b : Bool)
  /-- The platform asserts or releases `rst` (R170). -/
  | reset (level : Bool)
deriving DecidableEq, Repr

/-- Everything the spec gives the machine. The first thirteen fields are R10's and R26's; `rsp` and `waiting` are the state of
the response port (R44) and of a stepping `RUN` that its driver holds back (R46); `ports` and `env` are the environment's,
`floorFx` is the build-time parameter `FLOOR_SPEED_FX` (R4). -/
structure State where
  /-- `POS`, current position, two's complement steps (R11). -/
  pos  : Word
  /-- `TGT`, target position, two's complement steps (R12). -/
  tgt  : Word
  /-- `SPD`, current speed, unsigned, 1/`SU` step/s (R14). -/
  spd  : DWord
  /-- `VMAX`, maximum speed, UQ16.16 (R15). -/
  vmax : Word
  /-- `ACC`, acceleration, UQ16.16 (R16). -/
  acc  : Word
  /-- `DEC`, deceleration, UQ16.16 (R17). -/
  dec  : Word
  /-- `IVL`, step interval, unsigned microseconds (R18). -/
  ivl  : DWord
  /-- `LST`, last step time, microseconds modulo 2^32 (R19). -/
  lst  : Word
  /-- `EN`, enabled flag (R20). -/
  en   : Bool
  /-- `MOV`, moving flag (R21). -/
  mov  : Bool
  /-- `DIR`, direction of the last step, true = clockwise (R22). -/
  dir  : Bool
  /-- `FLT`, fault register: bit 0 `ILLEGAL_CMD`, 1 `CFG_VALUE`, 2 `UNCONFIGURED`, 3 `RANGE` (R23). -/
  flt  : BitVec 4
  /-- `EVT`, the events since reset, oldest first (R26). -/
  evt  : List Event
  /-- The response port: the word with `rsp_valid = 1`, or none (R44; log 4). -/
  rsp  : Option DWord
  /-- A stepping `RUN` whose completion the Pulse Driver holds back (R46; log 5). -/
  waiting : Bool
  /-- The levels on the input ports (R42; the environment's). -/
  ports : Ports
  /-- The changes of input levels still to come, oldest first (the environment's; log 2). -/
  env  : List Stimulus
  /-- `FLOOR_SPEED_FX`, fixed at build time; nothing writes it (R4; log 1). -/
  floorFx : Word
deriving DecidableEq, Repr

/-- The machine stops with a fault: never. No constructor, because nothing in the engine is stuck or unpredictable (spec/93
part 1) and the engine has no trap mechanism (R140, R147): a faulting command is a NEXT state with its bit of `FLT` set
(`FaultBit`). Neither safe nor unsafe: nothing raises it (log 11). -/
inductive Fault where
deriving DecidableEq, Repr

/-- Why a step has no meaning in the model. -/
inductive Refusal where
  /-- Raised by `exec` for an instruction whose meaning is not written yet; no arm does so now. Safe: the model stops. -/
  | notModelled (mnemonic : String)
deriving DecidableEq, Repr

/-- The input levels right after reset: `rst` released, the driver idle (R172), nothing presented; the clock and the geometry
inputs, which the spec leaves free, at 0 (DESIGN CHOICE, log 3). -/
def Ports.initial : Ports :=
  { rst := false, cmdValid := false, cmdWord := 0#40, nowUs := 0#32, spr := 0#32, gear := 0#32, drvBusy := false }

/-- R30, R170: the reset values, for an engine built with the given `FLOOR_SPEED_FX`. -/
def State.resetWith (floorFx : Word) : State :=
  { pos := 0#32, tgt := 0#32, spd := 0#64, vmax := 0#32, acc := 0#32, dec := 0#32
    ivl := BitVec.ofNat 64 (Config.iReset floorFx), lst := 0#32
    en := false, mov := false, dir := true, flt := 0#4, evt := []
    rsp := none, waiting := false, ports := Ports.initial, env := [], floorFx := floorFx }

/-- R30, R170: the machine right after reset, with the default floor speed (R4; log 1). -/
def State.reset : State := State.resetWith Config.defaultFloorFx

end Sys2Proof.Machine
end

