-- ==== Sys2Proof/Machine/Flags.lean ====
section
/-! DEFINITION. Derived views of the registers: `DIST` (spec/10_state.md R13), the braking predicate (spec/42_poll.md R104), the
phase and the status word (R24, R25), the running predicate (R120), the masks of `FLT` (R141), and the output ports that are
wires from the state (spec/20_memory.md R42-R48). -/

namespace Sys2Proof.Machine

/-- `DIST = s32(TGT) - s32(POS)` over the integers; it never wraps (R13). -/
def distToGo (s : State) : Int := s32 s.tgt - s32 s.pos

/-- R104 `BRAKE`: `2 * |DIST| * DEC * BK <= SPD * SPD`, exact, equality counts as braking.
(Constants stand first in a product, so that Lean never counts one down.) -/
def brake (s : State) : Bool :=
  decide (Config.bk * (2 * (distToGo s).natAbs * s.dec.toNat) ≤ s.spd.toNat * s.spd.toNat)

/-- The clamp `VMAX * 10^6` in `SPD` units (R15, R106). -/
def speedClamp (s : State) : Nat := 10 ^ 6 * s.vmax.toNat

/-- R103: some limit is still 0. -/
def unconfigured (s : State) : Bool := s.vmax == 0#32 || s.acc == 0#32 || s.dec == 0#32

/-- R25 `PHASE`: the branch the next `RUN` would take. -/
def phase (s : State) : Phase :=
  if s.en = false ∨ s.mov = false ∨ distToGo s = 0 then .idle
  else if brake s then .decelerating
  else if speedClamp s ≤ s.spd.toNat then .cruising
  else .accelerating

/-- R25: the 2-bit code of a phase. -/
def phaseCode : Phase → Nat
  | .idle         => 0
  | .accelerating => 1
  | .cruising     => 2
  | .decelerating => 3

/-- R24, R124: the status word `EN + 2*MOV + 4*DIR + 16*PHASE + 256*FLT`. -/
def statusWord (s : State) : DWord :=
  BitVec.ofNat 64
    (s.en.toNat + 2 * s.mov.toNat + 4 * s.dir.toNat + 16 * phaseCode (phase s) + 256 * s.flt.toNat)

/-- R120: a move is in progress; `EN` plays no part. -/
def moveInProgress (s : State) : Bool := s.mov && decide (distToGo s ≠ 0)

/-- R141: the bit of `FLT` a fault sets. -/
def faultMask : FaultBit → BitVec 4
  | .illegalCmd   => 0b0001#4
  | .cfgValue     => 0b0010#4
  | .unconfigured => 0b0100#4
  | .range        => 0b1000#4

/-- R48: `enable_o`. -/
def enableO (s : State) : Bool := s.en

/-- R48: `dir_o`. -/
def dirO (s : State) : Bool := s.dir

/-- R48: `fault_o`, the OR of the four bits of `FLT`. -/
def faultO (s : State) : Bool := s.flt.getLsbD 0 || s.flt.getLsbD 1 || s.flt.getLsbD 2 || s.flt.getLsbD 3

/-- R43, R46, R170: `cmd_ready`: not while `rst` is asserted and not while the driver holds back a stepping `RUN`. -/
def cmdReady (s : State) : Bool := !s.ports.rst && !(s.waiting && s.ports.drvBusy)

/-- R44, R170: `rsp_valid`. -/
def rspValid (s : State) : Bool := !s.ports.rst && s.rsp.isSome

/-- R44: `rsp_data`, where a response is present. -/
def rspData (s : State) : Option DWord := if rspValid s then s.rsp else none

/-- R26: the events issued between two states of one life of the engine. -/
def issuedEvents (before after : State) : List Event := after.evt.drop before.evt.length

/-- R46: the strobe `dir_set_o` of the step from `before` to `after`: a `SetDir` is issued (log 15). -/
def dirSetO (before after : State) : Bool :=
  (issuedEvents before after).contains (.setDir true) || (issuedEvents before after).contains (.setDir false)

/-- R46: the strobe `step_req_o` of the step from `before` to `after`: a `Pulse` is issued (log 15). -/
def stepReqO (before after : State) : Bool := (issuedEvents before after).contains .pulse

end Sys2Proof.Machine
end

