-- ==== Sys2Proof/Machine/Ops.lean ====
section
/-! DEFINITION. The named operations every command is made of: reading and writing a register (spec/00_scope.md R7,
spec/10_state.md R10), raising a fault (spec/60_exceptions.md R140), responding (spec/20_memory.md R44), issuing events (R46),
sampling inputs (R45, R47), reset (spec/70_reset_and_hazards.md R170), and taking a command or an input change from the ports
(R43; log 2). -/

namespace Sys2Proof.Machine

/-- R7 `x[i]`: a register's value, read whole, as an unsigned number. -/
def State.read (s : State) : Reg → Nat
  | .POS  => s.pos.toNat
  | .TGT  => s.tgt.toNat
  | .SPD  => s.spd.toNat
  | .VMAX => s.vmax.toNat
  | .ACC  => s.acc.toNat
  | .DEC  => s.dec.toNat
  | .IVL  => s.ivl.toNat
  | .LST  => s.lst.toNat
  | .EN   => s.en.toNat
  | .MOV  => s.mov.toNat
  | .DIR  => s.dir.toNat
  | .FLT  => s.flt.toNat

/-- R10, the "#" column: register numbers, used by `x[i]` only. -/
def regNumber : Reg → Nat
  | .POS => 0 | .TGT => 1 | .SPD => 2 | .VMAX => 3 | .ACC => 4 | .DEC => 5
  | .IVL => 6 | .LST => 7 | .EN => 8 | .MOV => 9 | .DIR => 10 | .FLT => 11

/-- R10, the "Width" column. -/
def regWidth : Reg → Nat
  | .POS => 32 | .TGT => 32 | .SPD => 64 | .VMAX => 32 | .ACC => 32 | .DEC => 32
  | .IVL => 64 | .LST => 32 | .EN => 1 | .MOV => 1 | .DIR => 1 | .FLT => 4

/-- R10, R27: the sub-block that holds each register. -/
def regOwner : Reg → SubBlock
  | .POS => .positionAccumulator | .TGT => .positionAccumulator | .DIR => .positionAccumulator
  | .SPD => .speedRampController | .VMAX => .speedRampController | .ACC => .speedRampController
  | .DEC => .speedRampController
  | .IVL => .stepTimingScheduler | .LST => .stepTimingScheduler
  | .EN => .control | .MOV => .control | .FLT => .control

def State.setPos (s : State) (v : Word) : State := { s with pos := v }
def State.setTgt (s : State) (v : Word) : State := { s with tgt := v }
def State.setSpd (s : State) (v : DWord) : State := { s with spd := v }
def State.setVmax (s : State) (v : Word) : State := { s with vmax := v }
def State.setAcc (s : State) (v : Word) : State := { s with acc := v }
def State.setDec (s : State) (v : Word) : State := { s with dec := v }
def State.setIvl (s : State) (v : DWord) : State := { s with ivl := v }
def State.setLst (s : State) (v : Word) : State := { s with lst := v }
def State.setEn (s : State) (v : Bool) : State := { s with en := v }
def State.setMov (s : State) (v : Bool) : State := { s with mov := v }
def State.setDir (s : State) (v : Bool) : State := { s with dir := v }

/-- TAKING A FAULT (R140): `FLT <- FLT or bit`, no other effect; the engine goes on. The engine has no handler, no saved state
and no return from a fault (R147), so there is no operation beside this one. -/
def raiseFault (f : FaultBit) (s : State) : State := { s with flt := s.flt ||| faultMask f }

/-- R44 `respond(v)`. -/
def respond (v : DWord) (s : State) : State := { s with rsp := some v }

/-- R7, R26: append an event to `EVT`. -/
def appendEvent (e : Event) (s : State) : State := { s with evt := s.evt ++ [e] }

/-- R46 `emit SetDir(b)`: `DIR` takes the value `b` and the event is issued. -/
def emitSetDir (b : Bool) (s : State) : State := appendEvent (.setDir b) (s.setDir b)

/-- R46 `emit Pulse`: the event is issued, and the `RUN` does not complete while the driver is busy (log 5). -/
def emitPulse (s : State) : State := { appendEvent .pulse s with waiting := s.ports.drvBusy }

/-- R45 `ClockRead()`: the level on `now_us_i`; sampling has no effect on it (log 14). -/
def clockRead (s : State) : Word := s.ports.nowUs

/-- R47 `GeomRead()`. -/
def geomRead (s : State) : Word := s.ports.spr

/-- R47 `GearRead()`. -/
def gearRead (s : State) : Word := s.ports.gear

/-- The common end of the move commands (R90-R93, R131): `TGT <- t`, `MOV <- 1`; `SPD` is not written. -/
def startMove (t : Word) (s : State) : State := (s.setTgt t).setMov true

/-- R91-R93: the end of a relative move: refuse a target outside `INT_MIN..INT_MAX` with `RANGE`, else start the move. -/
def startMoveTo (t : Int) (s : State) : State :=
  if fits32 t then startMove (u32 t) s else raiseFault .range s

/-- R92, R93: a rotation by a step count: refuse a count, then a target, that does not fit. The base is `POS`. -/
def rotateBySteps (steps : Int) (s : State) : State :=
  if fits32 steps then startMoveTo (s32 s.pos + steps) s else raiseFault .range s

/-- R94: `TGT <- POS`, `MOV <- 0`, `SPD <- 0`. -/
def haltMotion (s : State) : State := ((s.setTgt s.pos).setMov false).setSpd 0#64

/-- R170: every register at its reset value, the trace empty, no response and no `RUN` pending; the input levels and what is
still to come on them are not the engine's. -/
def resetEngine (s : State) : State :=
  { State.resetWith s.floorFx with ports := s.ports, env := s.env }

/-- R42, R170: one change on the input ports. Asserting `rst` resets the engine at once; a driver that is no longer busy lets a
stepping `RUN` complete (R46; log 5, log 8). -/
def applyStimulus (x : Stimulus) (s : State) : State :=
  match x with
  | .command w     => { s with ports := { s.ports with cmdValid := true, cmdWord := w } }
  | .withdraw      => { s with ports := { s.ports with cmdValid := false } }
  | .clock t       => { s with ports := { s.ports with nowUs := t } }
  | .stepsPerRev v => { s with ports := { s.ports with spr := v } }
  | .gearRatio v   => { s with ports := { s.ports with gear := v } }
  | .driverBusy b  => { s with waiting := s.waiting && b, ports := { s.ports with drvBusy := b } }
  | .reset true    => resetEngine { s with ports := { s.ports with rst := true } }
  | .reset false   => { s with ports := { s.ports with rst := false } }

/-- The next pending change of the environment, if there is one; otherwise nothing happens (R149; log 2). -/
def takeStimulus (s : State) : State :=
  match s.env with
  | []        => s
  | x :: rest => applyStimulus x { s with env := rest }

/-- No command can be taken: the environment moves on. While `rst` is asserted the engine is held at its reset values (R170). -/
def awaitInput (s : State) : State := if s.ports.rst then takeStimulus (resetEngine s) else takeStimulus s

/-- R43: a command is transferred when `cmd_valid` and `cmd_ready` are both 1. -/
def fetch (s : State) : Option CmdWord :=
  if s.ports.cmdValid && cmdReady s then some s.ports.cmdWord else none

/-- R43, R44: the transfer itself: the word is taken from the port, and the port is free of the last response (log 4, log 7). -/
def acceptCommand (s : State) : State :=
  { s with rsp := none, waiting := false, ports := { s.ports with cmdValid := false } }

/-- R64, R142: an illegal word sets `FLT.ILLEGAL_CMD` and does nothing else. -/
def takeIllegal (s : State) : State := raiseFault .illegalCmd s

/-- A command word on the command port of an engine that can take it, at once. -/
def presentWord (w : CmdWord) (s : State) : State :=
  { s with waiting := false, ports := { s.ports with rst := false, cmdValid := true, cmdWord := w } }

end Sys2Proof.Machine
end

