-- ==== Sys2Proof/Machine/ConfigPower.lean ====
section
/-! DEFINITION. The configuration and enable commands (spec/40_config_power.md R80-R85). -/

namespace Sys2Proof.Machine

/-- R80 `SET_MAX_SPEED`: 0 is refused with `CFG_VALUE`; `SPD` and `IVL` are not touched. -/
def execSetMaxSpeed (vFx : Word) (s : State) : Host.Outcome State Fault Refusal :=
  .next (if vFx = 0#32 then raiseFault .cfgValue s else s.setVmax vFx)

/-- R81 `SET_ACCEL`. -/
def execSetAccel (aFx : Word) (s : State) : Host.Outcome State Fault Refusal :=
  .next (if aFx = 0#32 then raiseFault .cfgValue s else s.setAcc aFx)

/-- R82 `SET_DECEL`. -/
def execSetDecel (dFx : Word) (s : State) : Host.Outcome State Fault Refusal :=
  .next (if dFx = 0#32 then raiseFault .cfgValue s else s.setDec dFx)

/-- R84 `ENABLE`. -/
def execEnable (s : State) : Host.Outcome State Fault Refusal := .next (s.setEn true)

/-- R85 `DISABLE`: the flag only; `MOV`, `SPD` and `TGT` stay. -/
def execDisable (s : State) : Host.Outcome State Fault Refusal := .next (s.setEn false)

end Sys2Proof.Machine
end

