-- ==== Sys2Proof/Machine/Home.lean ====
section
/-! DEFINITION. The home commands (spec/44_home.md R130, R131). -/

namespace Sys2Proof.Machine

/-- R130 `SET_HOME`: `POS` only; `TGT` is not written. -/
def execSetHome (s : State) : Host.Outcome State Fault Refusal := .next (s.setPos 0#32)

/-- R131 `GO_HOME`: the effect of `MOVE_TO 0`. -/
def execGoHome (s : State) : Host.Outcome State Fault Refusal := .next (startMove 0#32 s)

end Sys2Proof.Machine
end

