-- ==== Sys2Proof/Machine/Move.lean ====
section
/-! DEFINITION. The move and stop commands (spec/41_move.md R90-R95). None of them looks at `EN` (R96), emits an event, reads the
clock or writes `IVL`, `LST` or `DIR`. -/

namespace Sys2Proof.Machine

/-- R90 `MOVE_TO`: every operand is a legal target. -/
def execMoveTo (p : Word) (s : State) : Host.Outcome State Fault Refusal := .next (startMove (u32 (s32 p)) s)

/-- R91 `MOVE_REL`: relative to `POS`, not to `TGT`; `RANGE` where the sum does not fit. -/
def execMoveRel (d : Word) (s : State) : Host.Outcome State Fault Refusal :=
  .next (startMoveTo (s32 s.pos + s32 d) s)

/-- R92 `ROTATE_DEG`: the geometry inputs are sampled once, by this command. -/
def execRotateDeg (degFx : Word) (s : State) : Host.Outcome State Fault Refusal :=
  .next (rotateBySteps (degreeSteps degFx (geomRead s) (gearRead s)) s)

/-- R93 `ROTATE_REV`. -/
def execRotateRev (revFx : Word) (s : State) : Host.Outcome State Fault Refusal :=
  .next (rotateBySteps (revolutionSteps revFx (geomRead s) (gearRead s)) s)

/-- R94 `STOP`: abrupt, no ramp; `EN`, `IVL`, `LST`, `DIR` stay. -/
def execStop (s : State) : Host.Outcome State Fault Refusal := .next (haltMotion s)

/-- R95 `ESTOP`: the same halt, and `EN <- 0`, in one atomic step. -/
def execEstop (s : State) : Host.Outcome State Fault Refusal := .next ((haltMotion s).setEn false)

end Sys2Proof.Machine
end

