-- ==== Sys2Proof/Machine/Poll.lean ====
section
/-! DEFINITION. The poll command `RUN` (spec/42_poll.md R100) with its parts: gate (R101), arrival (R102), configuration check
(R103), speed law (R104-R107), time gate (R108) and step (R109). -/

namespace Sys2Proof.Machine

/-- R105, R106: the new speed `s1`. The deceleration branch subtracts over the integers before the floor is applied; the other
has no floor. The time delta is the interval of the previous poll (R113). -/
def nextSpeed (s : State) : Nat :=
  if brake s then
    (max ((s.spd.toNat : Int) - (s.dec.toNat : Int) * (s.ivl.toNat : Int)) (Config.sFloor s.floorFx : Int)).toNat
  else
    min (s.spd.toNat + s.acc.toNat * s.ivl.toNat) (speedClamp s)

/-- R107: `BK div s1`. R5 defines the division by a positive number only, and R110 shows `s1 >= 1` in every reachable state;
elsewhere the quotient is a free value (DESIGN CHOICE, log 6). -/
def intervalOf (s1 : Nat) : DWord :=
  if s1 = 0 then Config.quotientByZero Config.bk else BitVec.ofNat 64 (Config.bk / s1)

/-- R100 step 3: `SPD <- s1`, `IVL <- BK div s1`. -/
def speedLaw (s : State) : State :=
  (s.setSpd (BitVec.ofNat 64 (nextSpeed s))).setIvl (intervalOf (nextSpeed s))

/-- R109: `DIR <- b` and `SetDir(b)` only where the direction changes. -/
def turnTo (b : Bool) (s : State) : State := if b = s.dir then s else emitSetDir b s

/-- R109: one step toward `TGT`: `POS`, then the direction, then the pulse, then `LST <- now` with the one sample. -/
def takeStep (now : Word) (s : State) : State :=
  let clockwise := decide (0 < distToGo s)
  let moved := s.setPos (if clockwise then s.pos + 1#32 else s.pos - 1#32)
  (emitPulse (turnTo clockwise moved)).setLst now

/-- R108: the time gate; equality steps, and the interval is the new one. -/
def timeGate (s : State) : State :=
  if s.ivl.toNat ≤ elapsed (clockRead s) s.lst then takeStep (clockRead s) s else s

/-- R102: arrival. -/
def arrive (s : State) : State := (s.setMov false).setSpd 0#64

/-- R100 `RUN`: one poll. -/
def execRun (s : State) : Host.Outcome State Fault Refusal :=
  .next
    (if s.en = false ∨ s.mov = false then s
     else if distToGo s = 0 then arrive s
     else if unconfigured s then raiseFault .unconfigured s
     else timeGate (speedLaw s))

end Sys2Proof.Machine
end

