-- ==== Sys2Proof/Machine/Query.lean ====
section
/-! DEFINITION. The status queries (spec/43_query.md R120-R124): each answers one 64-bit word and changes no register (R125). -/

namespace Sys2Proof.Machine

/-- R120 `IS_RUNNING`. -/
def execIsRunning (s : State) : Host.Outcome State Fault Refusal :=
  .next (respond (zext64 (moveInProgress s).toNat) s)

/-- R121 `GET_DIST`: the exact difference, sign-extended. -/
def execGetDist (s : State) : Host.Outcome State Fault Refusal := .next (respond (sext64 (distToGo s)) s)

/-- R122 `GET_POS`. -/
def execGetPos (s : State) : Host.Outcome State Fault Refusal := .next (respond (sext64 (s32 s.pos)) s)

/-- R123 `GET_SPEED`: the raw register. -/
def execGetSpeed (s : State) : Host.Outcome State Fault Refusal := .next (respond (zext64 s.spd.toNat) s)

/-- R124 `GET_STATUS`; reading the fault bits does not clear them (R148). -/
def execGetStatus (s : State) : Host.Outcome State Fault Refusal := .next (respond (statusWord s) s)

end Sys2Proof.Machine
end

