-- ==== Sys2Proof/Machine/Dispatch.lean ====
section
/-! DEFINITION. One arm per command: each a direct call of its meaning. -/

namespace Sys2Proof.Machine

def exec (i : Instr) (s : State) : Host.Outcome State Fault Refusal :=
  match i with
  | .setMaxSpeed vFx => Sys2Proof.Machine.execSetMaxSpeed vFx s
  | .setAccel aFx => Sys2Proof.Machine.execSetAccel aFx s
  | .setDecel dFx => Sys2Proof.Machine.execSetDecel dFx s
  | .enable => Sys2Proof.Machine.execEnable s
  | .disable => Sys2Proof.Machine.execDisable s
  | .moveTo p => Sys2Proof.Machine.execMoveTo p s
  | .moveRel d => Sys2Proof.Machine.execMoveRel d s
  | .rotateDeg degFx => Sys2Proof.Machine.execRotateDeg degFx s
  | .rotateRev revFx => Sys2Proof.Machine.execRotateRev revFx s
  | .stop => Sys2Proof.Machine.execStop s
  | .estop => Sys2Proof.Machine.execEstop s
  | .run => Sys2Proof.Machine.execRun s
  | .isRunning => Sys2Proof.Machine.execIsRunning s
  | .getDist => Sys2Proof.Machine.execGetDist s
  | .getPos => Sys2Proof.Machine.execGetPos s
  | .getSpeed => Sys2Proof.Machine.execGetSpeed s
  | .getStatus => Sys2Proof.Machine.execGetStatus s
  | .setHome => Sys2Proof.Machine.execSetHome s
  | .goHome => Sys2Proof.Machine.execGoHome s

end Sys2Proof.Machine
end

