-- ==== Sys2Proof/Machine/Step.lean ====
section
/-! DEFINITION. One step of the machine (spec/20_memory.md R43, spec/00_scope.md R9): either one command is transferred and
executed whole, or, where none can be, the environment moves on by one change of its inputs (log 2). -/

namespace Sys2Proof.Machine

/-- A word that was transferred: decoded first, then executed; an illegal word has no command whose checks could run (R146). -/
def runWord (w : CmdWord) (s : State) : Host.Outcome State Fault Refusal :=
  match decode w with
  | .command i => exec i s
  | .illegal _ => .next (takeIllegal s)

/-- One step. -/
def step (s : State) : Host.Outcome State Fault Refusal :=
  match fetch s with
  | some w => runWord w (acceptCommand s)
  | none   => .next (awaitInput s)

/-- `s` with a word of the opcode table on its command port, where the next step takes it (log 2, log 10). -/
def State.withFetchWord (s : State) (nbits w : Nat) : State := presentWord (BitVec.ofNat 40 (w % 2 ^ nbits)) s

end Sys2Proof.Machine
end

