-- ==== Sys2Proof/Machine/Bench.lean ====
section
/-! DEFINITION. The test-bench notation of spec/30_encoding.md R67, R68 as changes on the input ports: a command line, `RUN @t`,
and the `POLL` macro. None of it is a command; the engine sees only the ports. -/

namespace Sys2Proof.Machine

/-- A command presented by the host. -/
def presentCommand (i : Instr) : List Stimulus := [.command (encode i)]

/-- R67: `RUN @t`: the clock shows `t`, then the host presents `RUN`. -/
def runAt (t : Word) : List Stimulus := [.clock t, .command (encode .run)]

/-- R68: the first `n` polls of `POLL from t0 every p`: `RUN @t0`, `RUN @(t0+p)`, …, the clock modulo 2^32 (R45). -/
def pollFrom (t0 p : Nat) : Nat → List Stimulus
  | 0     => []
  | n + 1 => runAt (BitVec.ofNat 32 t0) ++ pollFrom (t0 + p) p n

/-- The state with another level on the clock input (R45). -/
def atClock (t : Word) (s : State) : State := { s with ports := { s.ports with nowUs := t } }

/-- R68: the state after a sequence of polls, the clock showing each sample in turn; a poll always answers a next state. -/
def afterPolls : List Word → State → State
  | [],      s => s
  | t :: ts, s =>
    match exec .run (atClock t s) with
    | .next u    => afterPolls ts u
    | .fault _   => s
    | .refused _ => s

end Sys2Proof.Machine
end

