-- ==== Sys2Proof/Safety.lean ====
section
/-! DEFINITION. What a good state and a safe run are: the invariants of spec/10_state.md R28 that one state can show, with the
parameter's bound (spec/00_scope.md R4) and the two facts about the ports that every step keeps. -/

namespace Sys2Proof.Machine

/-- The largest speed a clamp or a floor can give, `4 294 967 295 * 10^6` (R28 item 2: `FLOOR_SPEED_FX` is a 32-bit pattern,
so `S_FLOOR` does not exceed it). -/
def maxSpeedUnits : Nat := 4294967295 * 10 ^ 6

/-- R28 items 2 to 4, with `FLOOR_SPEED_FX >= 1` (R4), a wait only on a busy driver (R46) and the reset values held while `rst`
is asserted (R170). Items 1 and 5 hold by the registers' types. -/
structure Inv (s : State) : Prop where
  floor_pos : 1 ≤ s.floorFx.toNat
  speed_le : s.spd.toNat ≤ maxSpeedUnits
  interval_of_speed : s.spd.toNat ≠ 0 → s.ivl.toNat = Config.bk / s.spd.toNat
  interval_ge : 15 ≤ s.ivl.toNat
  interval_le : s.ivl.toNat ≤ Config.bk
  waits_on_driver : s.waiting = true → s.ports.drvBusy = true
  held_in_reset : s.ports.rst = true → s = resetEngine s

/-- A step is safe when it neither faults nor refuses: the engine never stops (spec/93 part 1). -/
def SafeStep (s : State) : Prop := ∃ t, step s = .next t

/-- The engine is polled and acts: steps 1 to 3a of `RUN` pass (R101-R103). -/
def PollActs (s : State) : Prop := s.en = true ∧ s.mov = true ∧ distToGo s ≠ 0 ∧ unconfigured s = false

end Sys2Proof.Machine
end

