-- ==== Sys2Proof/Certificates/Slice0/Obligations.lean ====
section
/-! DEFINITION. The statements about the model, for the provers. Each docstring names the rule of spec/ it formalises or rests
on. Where a statement gives a next state as a record update of the state before, every field it does not name is unchanged: the
frame is part of the equation. There is no memory (R40), so no statement speaks of bytes. -/

open Sys2Proof Sys2Proof.Machine

/-! ## Words and decoding -/

/-- R69: `decode(w)` answers the command whose opcode is `w[39:32]`, with the operand `w[31:0]` where the format reads one, and
`Illegal` otherwise; `encode` of a command with operand `k` is `{op, u32(k)}`, `k = 0` for formats N and Q; the two agree in both
directions. -/
def Obligations.DecodeAndEncodeAgree : Prop :=
  (∀ i : Instr, decode (encode i) = .command i)
  ∧ (∀ i : Instr, encode i = opcodeOf (mnemonicOf i) ++ operandOf i)
  ∧ (∀ i : Instr, ((mnemonicOf i).format = .N ∨ (mnemonicOf i).format = .Q) → operandOf i = 0#32)
  ∧ (∀ (m : Mnemonic) (k : Int), m.format ≠ .N → m.format ≠ .Q →
      ∃ i, mnemonicOf i = m ∧ encode i = opcodeOf m ++ BitVec.ofNat 32 (k % 4294967296).toNat)
  ∧ (∀ (w : CmdWord) (m : Mnemonic), opcodeOf m = w.extractLsb' 32 8 →
      ∃ i, decode w = .command i ∧ mnemonicOf i = m
        ∧ (m.format ≠ .N → m.format ≠ .Q → operandOf i = w.extractLsb' 0 32 ∧ encode i = w)
        ∧ (m.format = .N ∨ m.format = .Q → encode i = w.extractLsb' 32 8 ++ 0#32))
  ∧ (∀ w : CmdWord, (∀ m : Mnemonic, opcodeOf m ≠ w.extractLsb' 32 8) → decode w = .illegal (w.extractLsb' 32 8))

/-- The table of 30_encoding.md section 3 read by its `match` and `mask`: a word that selects a row decodes to that row's command,
a word that selects none is illegal, and no word selects two rows. -/
def Obligations.DecodeFollowsMatchAndMask : Prop :=
  ∀ w : CmdWord,
    (∀ r ∈ opcodeTable, w &&& r.mask = r.pattern →
      ∃ i, decode w = .command i ∧ mnemonicOf i = r.mnemonic ∧ r.mnemonic.format = r.format)
    ∧ ((∀ r ∈ opcodeTable, w &&& r.mask ≠ r.pattern) → ∃ op, decode w = .illegal op)
    ∧ (∀ r₁ ∈ opcodeTable, ∀ r₂ ∈ opcodeTable,
        w &&& r₁.mask = r₁.pattern → w &&& r₂.mask = r₂.pattern → r₁ = r₂)

/-- 30_encoding.md section 4: the operand bits of formats N and Q are ignored, those of I, U and S are all significant. -/
def Obligations.OperandBitsIgnoredOrSignificant : Prop :=
  ∀ (m : Mnemonic) (k k' : Word),
    (m.format = .N ∨ m.format = .Q → decode (opcodeOf m ++ k) = decode (opcodeOf m ++ k'))
    ∧ (m.format ≠ .N → m.format ≠ .Q → k ≠ k' → decode (opcodeOf m ++ k) ≠ decode (opcodeOf m ++ k'))

/-- Words of the encoding vectors of 95_test_vectors.md section 2. -/
def Obligations.VectorWordsDecode : Prop :=
  decode 0x1003E80000#40 = .command (.setMaxSpeed 65536000#32)
  ∧ decode 0x18DEADBEEF#40 = .command .enable
  ∧ decode 0x20FFFFFFFE#40 = .command (.moveTo (BitVec.ofInt 32 (-2)))
  ∧ decode 0x22FFA60000#40 = .command (.rotateDeg (BitVec.ofInt 32 (-5898240)))
  ∧ decode 0x30FFFFFFFF#40 = .command .run
  ∧ decode 0x4400000001#40 = .command .getStatus
  ∧ decode 0x5100000000#40 = .command .goHome
  ∧ decode 0x0000000000#40 = .illegal 0x00#8
  ∧ decode 0x1300000000#40 = .illegal 0x13#8

/-- 30_encoding.md section 5: a line `MNEMONIC fx(r)`, `r = n / 10^d`, that assembles gives a word whose operand is exactly
`r * 65536`, so no rounding is ever implied; and it does assemble where `r * 65536` is an integer in the range of a format that
reads its operand. That `fx()` may stand on a command of format I, and the form `n / 10^d` of a real, are the model's (log 12). -/
def Obligations.FxOperandsAreExact : Prop :=
  (∀ (m : Mnemonic) (n : Int) (d : Nat) (w : CmdWord), assemble ⟨m, .fx n d⟩ = some w →
    opcodeField w = opcodeOf m
    ∧ ∃ v : Int, v * (10 : Int) ^ d = n * 65536
      ∧ (m.format = .U → ((operandField w).toNat : Int) = v)
      ∧ (m.format ≠ .U → (operandField w).toInt = v))
  ∧ (∀ (m : Mnemonic) (n : Int) (d : Nat) (v : Int), v * (10 : Int) ^ d = n * 65536 →
      (m.format = .U ∧ 0 ≤ v ∧ v ≤ 4294967295
        ∨ (m.format = .I ∨ m.format = .S) ∧ -2147483648 ≤ v ∧ v ≤ 2147483647) →
      assemble ⟨m, .fx n d⟩ = some (opcodeOf m ++ BitVec.ofInt 32 v))

/-! ## One step -/

/-- 20_memory.md sections 2 and 4: a valid word on the command port of a ready engine is transferred, and the step is the
execution of the command it decodes to. That it runs on the state whose ports no longer hold the word, an earlier response or an
earlier `RUN`'s wait is the model's (log 4, log 5, log 7). -/
def Obligations.StepRunsTheDecodedCommand : Prop :=
  ∀ (s : State) (i : Instr),
    s.ports.cmdValid = true → s.ports.rst = false → (s.waiting = false ∨ s.ports.drvBusy = false) →
    decode s.ports.cmdWord = .command i →
    step s = exec i { s with rsp := none, waiting := false, ports := { s.ports with cmdValid := false } }

/-- 60_exceptions.md R142: a transferred word whose opcode is none of the nineteen sets `FLT[0]` and no other register, whatever
its operand; operand bits alone never make a word illegal. That the transfer takes the last response (`rsp := none`, log 4) and
the word (`cmdValid := false`, log 7) off their ports and ends an earlier `RUN`'s wait (`waiting := false`, log 5) is the
model's. -/
def Obligations.IllegalOpcodeSetsOnlyIllegalCmd : Prop :=
  (∀ s : State, s.ports.cmdValid = true → s.ports.rst = false → (s.waiting = false ∨ s.ports.drvBusy = false) →
    s.ports.cmdWord.extractLsb' 32 8 ∉
      [0x10#8, 0x11#8, 0x12#8, 0x18#8, 0x19#8, 0x20#8, 0x21#8, 0x22#8, 0x23#8, 0x28#8, 0x29#8, 0x30#8,
       0x40#8, 0x41#8, 0x42#8, 0x43#8, 0x44#8, 0x50#8, 0x51#8] →
    step s = .next { s with flt := s.flt ||| 0b0001#4, rsp := none, waiting := false,
                            ports := { s.ports with cmdValid := false } })
  ∧ (∀ w : CmdWord, w.extractLsb' 32 8 ∈
      [0x10#8, 0x11#8, 0x12#8, 0x18#8, 0x19#8, 0x20#8, 0x21#8, 0x22#8, 0x23#8, 0x28#8, 0x29#8, 0x30#8,
       0x40#8, 0x41#8, 0x42#8, 0x43#8, 0x44#8, 0x50#8, 0x51#8] →
    ∀ op, decode w ≠ .illegal op)

/-- 60_exceptions.md section 2: between two commands nothing happens in the engine. With no command that can be taken and no
input still to change, a step changes nothing. The model's own are that inputs change one a step (log 2), that a response then
still stands on its port (log 4), and the bit that holds back a stalled `RUN`, in the second case (log 5). -/
def Obligations.IdleEngineChangesNothing : Prop :=
  ∀ s : State, s.ports.rst = false → (s.ports.cmdValid = false ∨ (s.waiting = true ∧ s.ports.drvBusy = true)) →
    s.env = [] → step s = .next s

/-- 93_implementation_defined.md part 1: nothing in the engine is stuck. Every command in every state and every step of every
state answers a next state. -/
def Obligations.EveryCommandAndStepAnswersNext : Prop :=
  (∀ (i : Instr) (s : State), ∃ t, exec i s = .next t) ∧ (∀ s : State, SafeStep s)

/-- 20_memory.md section 2, the response port: after the step that takes a command, a response is present exactly when that
command is one of the five queries (that an older response is gone by then is the model's, log 4). -/
def Obligations.OnlyQueriesRespond : Prop :=
  ∀ (s t : State) (i : Instr),
    s.ports.cmdValid = true → s.ports.rst = false → (s.waiting = false ∨ s.ports.drvBusy = false) →
    decode s.ports.cmdWord = .command i → step s = .next t →
    (rspValid t = true ↔ (mnemonicOf i).format = .Q)

/-- 20_memory.md section 2, the Pulse Driver port: while the driver holds back a stepping `RUN` the engine is not ready, whatever
word stands on its port; the stall changes no register, event or response, and ends when the driver is no longer busy. The
model's own are the bit that holds the stall (log 5), that a step takes one input change (log 2), and that a response still
stands on its port after it (log 4). -/
def Obligations.BusyDriverOnlyDelays : Prop :=
  ∀ s : State, s.ports.rst = false → s.waiting = true → s.ports.drvBusy = true →
    cmdReady s = false
    ∧ (s.env.head? ≠ some (.reset true) →
        ∃ t, step s = .next t ∧ (∀ r : Reg, t.read r = s.read r) ∧ t.evt = s.evt ∧ t.rsp = s.rsp
          ∧ (s.env.head? ≠ some (.driverBusy false) → cmdReady t = false)
          ∧ (s.env.head? = some (.driverBusy false) → cmdReady t = true))

/-- 20_memory.md section 2: what the environment does to its own ports. A clock, geometry, command or driver change reaches its
input level and changes no register, no event and no response of the engine. That a step takes one change (log 2) and that a
response still stands on its port after it (log 4) is the model's. -/
def Obligations.InputChangesTouchNoRegister : Prop :=
  ∀ (s : State) (x : Stimulus) (rest : List Stimulus),
    s.ports.rst = false → s.ports.cmdValid = false → s.env = x :: rest → x ≠ .reset true →
    ∃ t, step s = .next t ∧ t.env = rest ∧ (∀ r : Reg, t.read r = s.read r) ∧ t.evt = s.evt ∧ t.rsp = s.rsp
      ∧ t.floorFx = s.floorFx
      ∧ t.ports.nowUs = (match x with | .clock v => v | _ => s.ports.nowUs)
      ∧ t.ports.spr = (match x with | .stepsPerRev v => v | _ => s.ports.spr)
      ∧ t.ports.gear = (match x with | .gearRatio v => v | _ => s.ports.gear)
      ∧ t.ports.drvBusy = (match x with | .driverBusy b => b | _ => s.ports.drvBusy)
      ∧ t.ports.cmdValid = (match x with | .command _ => true | _ => false)
      ∧ t.ports.cmdWord = (match x with | .command w => w | _ => s.ports.cmdWord)

/-- 30_encoding.md section 5: the line `RUN @t` on an engine that is ready is one poll whose clock sample is `t`. The model's own
are the three steps it takes (log 2), that the transfer drops an earlier response (`rsp := none`, log 4), and that it takes the
word off its port (`cmdValid := false`, log 7). -/
def Obligations.RunAtLineIsOnePoll : Prop :=
  ∀ (s : State) (t : Word) (rest : List Stimulus),
    s.ports.rst = false → s.ports.cmdValid = false → s.waiting = false → s.env = runAt t ++ rest →
    Host.Core.run Sys2Proof.core 3 s =
      exec .run { s with rsp := none, env := rest,
                         ports := { s.ports with nowUs := t, cmdValid := false, cmdWord := 0x3000000000#40 } }

/-! ## Reset -/

/-- R30: the reset values of every register, the empty trace and the outputs at reset, `IVL` for every `FLOOR_SPEED_FX`. -/
def Obligations.ResetValuesAreTheTables : Prop :=
  (∀ f : Word, 1 ≤ f.toNat →
    (State.resetWith f).ivl.toNat = 65536000000000000 / (1000000 * f.toNat) ∧ (State.resetWith f).evt = []
    ∧ ∀ r : Reg, r ≠ .IVL → (State.resetWith f).read r = if r = .DIR then 1 else 0)
  ∧ State.reset.ivl.toNat = 20000 ∧ State.reset.evt = []
  ∧ (∀ r : Reg, r ≠ .IVL → State.reset.read r = if r = .DIR then 1 else 0)
  ∧ enableO State.reset = false ∧ dirO State.reset = true ∧ faultO State.reset = false
  ∧ State.reset.waiting = false ∧ rspValid State.reset = false

/-- 70_reset_and_hazards.md section 1: asserting `rst` abandons whatever the engine does and gives every register its reset value
at once; while it stays asserted the engine is held there, takes no command and shows no response; releasing it leaves the
reset state. That assertion acts at once and holds is the model's reading (log 8), and that a step takes one input change, where
no command can be taken, is the model's (log 2). -/
def Obligations.ResetRestoresEverything : Prop :=
  ∀ (s : State) (rest : List Stimulus),
    (s.ports.rst = false → (s.ports.cmdValid = false ∨ (s.waiting = true ∧ s.ports.drvBusy = true)) →
      s.env = .reset true :: rest →
      step s = .next { State.resetWith s.floorFx with ports := { s.ports with rst := true }, env := rest })
    ∧ (s.ports.rst = true → cmdReady s = false ∧ rspValid s = false)
    ∧ (s.ports.rst = true → s.env = [] → step s = .next { State.resetWith s.floorFx with ports := s.ports })
    ∧ (s.ports.rst = true → s.env = .reset false :: rest →
      step s = .next { State.resetWith s.floorFx with ports := { s.ports with rst := false }, env := rest })

/-! ## Configuration and enable commands -/

/-- 40_config_power.md R80, R81, R82: what the three setters do, in every state, with every operand: 0 sets `CFG_VALUE` and leaves
the limit alone, any other operand is stored and nothing else changes. -/
def Obligations.LimitSetterResults : Prop :=
  ∀ (v : Word) (s : State),
    exec (.setMaxSpeed v) s = .next (if v = 0#32 then { s with flt := s.flt ||| 0b0010#4 } else { s with vmax := v })
    ∧ exec (.setAccel v) s = .next (if v = 0#32 then { s with flt := s.flt ||| 0b0010#4 } else { s with acc := v })
    ∧ exec (.setDecel v) s = .next (if v = 0#32 then { s with flt := s.flt ||| 0b0010#4 } else { s with dec := v })

/-- 40_config_power.md R84, R85: `ENABLE` and `DISABLE` write `EN` and nothing else. -/
def Obligations.EnableDisableResult : Prop :=
  ∀ s : State, exec .enable s = .next { s with en := true } ∧ exec .disable s = .next { s with en := false }

/-- R143: the setters with operand 0, and only they, set `CFG_VALUE`; the target register keeps its old value. -/
def Obligations.ZeroOperandIsRefusedWithCfgValue : Prop :=
  (∀ (s : State) (i : Instr), i ∈ [.setMaxSpeed 0#32, .setAccel 0#32, .setDecel 0#32] →
    exec i s = .next { s with flt := s.flt ||| 0b0010#4 })
  ∧ (∀ (s t : State) (i : Instr), i ∉ [.setMaxSpeed 0#32, .setAccel 0#32, .setDecel 0#32] →
    exec i s = .next t → t.flt.getLsbD 1 = s.flt.getLsbD 1)

/-- 40_config_power.md R83: no command writes 0 to a limit: a configured limit stays configured until reset. -/
def Obligations.ConfiguredLimitsStayConfigured : Prop :=
  ∀ (i : Instr) (s t : State), exec i s = .next t →
    (s.vmax ≠ 0#32 → t.vmax ≠ 0#32) ∧ (s.acc ≠ 0#32 → t.acc ≠ 0#32) ∧ (s.dec ≠ 0#32 → t.dec ≠ 0#32)

/-! ## Move, stop and home commands -/

/-- 41_move.md R90 and 44_home.md R131: `MOVE_TO` takes every operand as its target, `GO_HOME` takes 0; `MOV` is set, all else
stays. -/
def Obligations.MoveToAndGoHomeResult : Prop :=
  ∀ (p : Word) (s : State),
    exec (.moveTo p) s = .next { s with tgt := p, mov := true }
    ∧ exec .goHome s = .next { s with tgt := 0#32, mov := true }

/-- 41_move.md R91: `MOVE_REL` takes `POS + d` as its target where the exact sum fits 32 bits, and is refused with `RANGE`
otherwise. -/
def Obligations.MoveRelResult : Prop :=
  ∀ (d : Word) (s : State),
    exec (.moveRel d) s = .next
      (if s.pos.toInt + d.toInt < -2147483648 ∨ 2147483647 < s.pos.toInt + d.toInt
       then { s with flt := s.flt ||| 0b1000#4 }
       else { s with tgt := s.pos + d, mov := true })

/-- 41_move.md R92: `ROTATE_DEG` moves by `deg * spr * gear / (360 * 2^32)`, exact and truncated once toward zero; a step count
or a target that does not fit 32 bits is refused with `RANGE`. -/
def Obligations.RotateDegResult : Prop :=
  ∀ (degFx : Word) (s : State),
    let steps : Int := Int.tdiv (degFx.toInt * s.ports.spr.toNat * s.ports.gear.toNat) 1546188226560
    exec (.rotateDeg degFx) s = .next
      (if steps < -2147483648 ∨ 2147483647 < steps
          ∨ s.pos.toInt + steps < -2147483648 ∨ 2147483647 < s.pos.toInt + steps
       then { s with flt := s.flt ||| 0b1000#4 }
       else { s with tgt := BitVec.ofInt 32 (s.pos.toInt + steps), mov := true })

/-- 41_move.md R93: `ROTATE_REV` moves by `rev * spr * gear / 2^32`, likewise. -/
def Obligations.RotateRevResult : Prop :=
  ∀ (revFx : Word) (s : State),
    let steps : Int := Int.tdiv (revFx.toInt * s.ports.spr.toNat * s.ports.gear.toNat) 4294967296
    exec (.rotateRev revFx) s = .next
      (if steps < -2147483648 ∨ 2147483647 < steps
          ∨ s.pos.toInt + steps < -2147483648 ∨ 2147483647 < s.pos.toInt + steps
       then { s with flt := s.flt ||| 0b1000#4 }
       else { s with tgt := BitVec.ofInt 32 (s.pos.toInt + steps), mov := true })

/-- R145: `RANGE` is set by `MOVE_REL` when `POS + delta` is out of range and by `ROTATE_DEG` and `ROTATE_REV` when the truncated
step count or `POS + steps` is, with `TGT`, `MOV` and everything else unchanged; otherwise, and for every other command, the bit
is left alone. -/
def Obligations.RangeFaultExactlyWhenOutOfRange : Prop :=
  ∀ (i : Instr) (s : State),
    let fits (v : Int) : Prop := -2147483648 ≤ v ∧ v ≤ 2147483647
    let turn (d : Word) (q : Int) : Int := Int.tdiv (d.toInt * s.ports.spr.toNat * s.ports.gear.toNat) q
    let outOfRange : Prop := match i with
      | .moveRel d   => ¬ fits (s.pos.toInt + d.toInt)
      | .rotateDeg d => ¬ fits (turn d 1546188226560) ∨ ¬ fits (s.pos.toInt + turn d 1546188226560)
      | .rotateRev d => ¬ fits (turn d 4294967296) ∨ ¬ fits (s.pos.toInt + turn d 4294967296)
      | _            => False
    (outOfRange → exec i s = .next { s with flt := s.flt ||| 0b1000#4 })
    ∧ (¬ outOfRange → ∃ t, exec i s = .next t ∧ t.flt.getLsbD 3 = s.flt.getLsbD 3)

/-- 41_move.md R92 and R93, corner case (a): the step count of an angle is the exact quotient of `n = d * spr * gear` by
`360 * 2^32` (degrees) or `2^32` (revolutions), truncated toward zero: it has the sign of `n` or is 0, it is never farther from 0
than the quotient, and less than one step nearer. So an angle worth less than one step gives 0, and the opposite angle gives the
opposite count. -/
def Obligations.AngleConversionTruncatesTowardZero : Prop :=
  ∀ (d spr gear : Word),
    let n : Int := d.toInt * spr.toNat * gear.toNat
    let truncates (q : Nat) (steps : Int) : Prop :=
      q * steps.natAbs ≤ n.natAbs ∧ n.natAbs < q * (steps.natAbs + 1) ∧ (0 < steps → 0 < n) ∧ (steps < 0 → n < 0)
    (truncates 1546188226560 (degreeSteps d spr gear) ∧ truncates 4294967296 (revolutionSteps d spr gear))
    ∧ (n.natAbs < 1546188226560 → degreeSteps d spr gear = 0)
    ∧ (n.natAbs < 4294967296 → revolutionSteps d spr gear = 0)
    ∧ (d ≠ 0x80000000#32 →
        degreeSteps (-d) spr gear = - degreeSteps d spr gear ∧ revolutionSteps (-d) spr gear = - revolutionSteps d spr gear)

/-- 41_move.md R94, R95: `STOP` and `ESTOP`. -/
def Obligations.StopAndEstopResult : Prop :=
  ∀ s : State,
    exec .stop s = .next { s with tgt := s.pos, mov := false, spd := 0#64 }
    ∧ exec .estop s = .next { s with tgt := s.pos, mov := false, spd := 0#64, en := false }

/-- 44_home.md R130: `SET_HOME` writes `POS` and nothing else, so the distance to go becomes the old target. -/
def Obligations.SetHomeResult : Prop :=
  ∀ s : State, exec .setHome s = .next { s with pos := 0#32 } ∧ distToGo { s with pos := 0#32 } = s.tgt.toInt

/-- 30_encoding.md R68: the three compositions: `ESTOP` is `STOP` then `DISABLE`, `GO_HOME` is `MOVE_TO 0`, and `MOVE_REL d` is
`MOVE_TO (POS + d)` where the sum is in range. -/
def Obligations.CompositionsHaveTheSameEffect : Prop :=
  (∀ s t : State, exec .stop s = .next t → exec .estop s = exec .disable t)
  ∧ (∀ s : State, exec .goHome s = exec (.moveTo 0#32) s)
  ∧ (∀ (d p : Word) (s : State), p.toInt = s.pos.toInt + d.toInt → exec (.moveRel d) s = exec (.moveTo p) s)

/-- R96: move commands ignore `EN`: they write the same `TGT`, `MOV` and `FLT` whatever it is and leave it, `POS`, `SPD` and the
trace as they are; and while it is 0 no poll changes anything. -/
def Obligations.MoveCommandsIgnoreEnable : Prop :=
  (∀ (i : Instr) (s t : State) (b : Bool),
    mnemonicOf i ∈ [Mnemonic.moveTo, .moveRel, .rotateDeg, .rotateRev, .goHome] →
    exec i s = .next t →
      exec i { s with en := b } = .next { t with en := b } ∧ t.pos = s.pos ∧ t.spd = s.spd ∧ t.evt = s.evt)
  ∧ (∀ s : State, s.en = false → exec .run s = .next s)

/-- R97: a move command whose target equals `POS` sets `MOV` with `DIST = 0`; `IS_RUNNING` answers 0 at once; the next `RUN` with
`EN = 1` clears `MOV` and zeroes `SPD` and does nothing else, whatever the clock shows; with `EN = 0` the state persists under
polls, until `STOP` clears it. -/
def Obligations.ZeroDistanceMoveEndsInOnePoll : Prop :=
  ∀ (i : Instr) (s : State),
    (i = .moveTo s.pos ∨ i = .moveRel 0#32
      ∨ (∃ d, i = .rotateDeg d ∧ degreeSteps d s.ports.spr s.ports.gear = 0)
      ∨ (∃ d, i = .rotateRev d ∧ revolutionSteps d s.ports.spr s.ports.gear = 0)
      ∨ (i = .goHome ∧ s.pos = 0#32)) →
    let t : State := { s with tgt := s.pos, mov := true }
    exec i s = .next t
    ∧ exec .isRunning t = .next { t with rsp := some 0#64 }
    ∧ (s.en = true → ∀ now : Word,
        exec .run (atClock now t) = .next { atClock now t with mov := false, spd := 0#64 })
    ∧ (s.en = false → ∀ now : Word, exec .run (atClock now t) = .next (atClock now t))
    ∧ exec .stop t = .next { t with mov := false, spd := 0#64 }

/-! ## The poll -/

/-- R101: with `EN = 0` or `MOV = 0` a poll writes no register, emits no event and raises no fault, whatever the clock shows and
even if a limit is unconfigured. -/
def Obligations.GatedPollDoesNothing : Prop :=
  ∀ (s : State) (now : Word), (s.en = false ∨ s.mov = false) → exec .run (atClock now s) = .next (atClock now s)

/-- 42_poll.md R102: with `EN = 1`, `MOV = 1` and `DIST = 0` a poll writes `MOV <- 0` and `SPD <- 0` and nothing else, even with
a limit at 0. -/
def Obligations.ArrivalPollClearsMovAndSpeed : Prop :=
  ∀ s : State, s.en = true → s.mov = true → s.tgt = s.pos →
    exec .run s = .next { s with mov := false, spd := 0#64 }

/-- 42_poll.md R103, 60_exceptions.md R144: with a limit at 0 an acting poll sets `UNCONFIGURED` and nothing else. -/
def Obligations.UnconfiguredPollFaults : Prop :=
  ∀ s : State, s.en = true → s.mov = true → s.tgt ≠ s.pos → (s.vmax = 0#32 ∨ s.acc = 0#32 ∨ s.dec = 0#32) →
    exec .run s = .next { s with flt := s.flt ||| 0b0100#4 }

/-- 42_poll.md R100, steps 3 and 4: the whole result of an acting poll, for every value of the floor, where the new speed `s1` is
at least 1 (in every state of the invariant it is: ActingPollSpeedAndIntervalBounds). The clock difference is modulo 2^32. That the
bit `waiting` takes the driver's level at the pulse is the model's (log 5). -/
def Obligations.ActingPollResult : Prop :=
  ∀ s : State, s.en = true → s.mov = true → s.tgt ≠ s.pos → s.vmax ≠ 0#32 → s.acc ≠ 0#32 → s.dec ≠ 0#32 →
    let d : Int := s.tgt.toInt - s.pos.toInt
    let s1 : Nat :=
      if 65536000000000000 * (2 * d.natAbs * s.dec.toNat) ≤ s.spd.toNat ^ 2
      then max (s.spd.toNat - s.dec.toNat * s.ivl.toNat) (1000000 * s.floorFx.toNat)
      else min (s.spd.toNat + s.acc.toNat * s.ivl.toNat) (1000000 * s.vmax.toNat)
    let i1 : Nat := 65536000000000000 / s1
    let b : Bool := decide (0 < d)
    1 ≤ s1 →
    exec .run s = .next
      (if i1 ≤ (s.ports.nowUs.toNat + 4294967296 - s.lst.toNat) % 4294967296 then
        { s with spd := BitVec.ofNat 64 s1, ivl := BitVec.ofNat 64 i1,
                 pos := if b then s.pos + 1#32 else s.pos - 1#32, dir := b,
                 evt := s.evt ++ (if b = s.dir then [.pulse] else [.setDir b, .pulse]),
                 lst := s.ports.nowUs, waiting := s.ports.drvBusy }
       else { s with spd := BitVec.ofNat 64 s1, ivl := BitVec.ofNat 64 i1 })

/-- 42_poll.md R110, R107 and 95_test_vectors.md X5: from a state of the invariant an acting poll leaves `SPD >= 15` and at most
the largest clamp, `IVL = BK div SPD` and `15 <= IVL <= BK`: no division by 0, no truncated write. -/
def Obligations.ActingPollSpeedAndIntervalBounds : Prop :=
  ∀ s t : State, Inv s → PollActs s → exec .run s = .next t →
    15 ≤ t.spd.toNat ∧ t.spd.toNat ≤ 4294967295000000
    ∧ t.ivl.toNat = 65536000000000000 / t.spd.toNat ∧ 15 ≤ t.ivl.toNat ∧ t.ivl.toNat ≤ 65536000000000000

/-- R115: after a poll on the acceleration branch `SPD <= VMAX * 10^6`; after one on the deceleration branch `SPD >= S_FLOOR`; and
where the maximum is no lower than the floor, a poll from a speed at or below the maximum leaves one at or below it. -/
def Obligations.SpeedBoundsOfTheTwoBranches : Prop :=
  ∀ s t : State, PollActs s → exec .run s = .next t →
    (brake s = false → t.spd.toNat ≤ 1000000 * s.vmax.toNat)
    ∧ (brake s = true → 1000000 * s.floorFx.toNat ≤ t.spd.toNat)
    ∧ (s.floorFx.toNat ≤ s.vmax.toNat → s.spd.toNat ≤ 1000000 * s.vmax.toNat → t.spd.toNat ≤ 1000000 * s.vmax.toNat)

/-- 42_poll.md R105: in every state of the invariant, when the braking predicate holds the decrement is at most half the speed, so
the subtraction never goes negative. -/
def Obligations.BrakingNeverSubtractsMoreThanHalf : Prop :=
  ∀ s : State, Inv s → distToGo s ≠ 0 → s.dec ≠ 0#32 → brake s = true → 2 * (s.dec.toNat * s.ivl.toNat) ≤ s.spd.toNat

/-- 95_test_vectors.md X4, 42_poll.md R109, R112: a poll moves `POS` by -1, 0 or +1, and it moves exactly when it appends a
`Pulse`, at most one, toward the target, in the direction `DIR` then shows; `SetDir` stands before it exactly when `DIR` changed;
`LST` is then the sample, and `TGT` and `MOV` are as before. -/
def Obligations.PollStepsExactlyWithItsPulse : Prop :=
  ∀ s t : State, distToGo s ≠ 0 → exec .run s = .next t →
    (t.evt = s.evt ∧ t.pos = s.pos ∧ t.dir = s.dir ∧ t.lst = s.lst ∧ t.tgt = s.tgt ∧ t.mov = s.mov)
    ∨ (t.evt = s.evt ++ (if t.dir = s.dir then [.pulse] else [.setDir t.dir, .pulse])
        ∧ t.pos.toInt = s.pos.toInt + (if t.dir = true then 1 else -1)
        ∧ (t.dir = true ↔ 0 < distToGo s) ∧ (distToGo t).natAbs + 1 = (distToGo s).natAbs
        ∧ t.lst = s.ports.nowUs ∧ t.tgt = s.tgt ∧ t.mov = s.mov)

/-- 20_memory.md R45, 42_poll.md R108: the elapsed time is the difference modulo 2^32, so it is the true time that passed between
the two samples whenever that is below 2^32 microseconds, across a wrap of the clock as well. -/
def Obligations.ElapsedTimeIsExactAcrossOneWrap : Prop :=
  ∀ (lst : Word) (dt : Nat), dt < 4294967296 → elapsed (BitVec.ofNat 32 (lst.toNat + dt)) lst = dt

/-- 20_memory.md R45 and 92_eei_decisions.md D30: a poll that ends before its step 4 does not look at the clock: two samples give
results that differ in the sample only. -/
def Obligations.ClockMattersOnlyToActingPolls : Prop :=
  ∀ (i : Instr) (s t : State) (now : Word), (i = .run → ¬ PollActs s) →
    exec i s = .next t → exec i (atClock now s) = .next (atClock now t)

/-- 20_memory.md R47: the geometry inputs matter to the two rotate commands only: for every other command two settings give results
that differ in the settings only. -/
def Obligations.GeometryMattersOnlyToRotations : Prop :=
  ∀ (i : Instr) (s t : State) (spr gear : Word),
    mnemonicOf i ≠ .rotateDeg → mnemonicOf i ≠ .rotateRev → exec i s = .next t →
    exec i { s with ports := { s.ports with spr := spr, gear := gear } }
      = .next { t with ports := { t.ports with spr := spr, gear := gear } }

/-- 42_poll.md R111 and 95_test_vectors.md S3, S4: from a state in which `IS_RUNNING` answers 0, no sequence of polls, whatever the
clock shows, changes `POS`, `TGT`, `IVL`, `LST`, `DIR`, a limit or a fault or emits an event; the speed stays or becomes 0. -/
def Obligations.NoPollMovesAnEngineThatIsNotRunning : Prop :=
  ∀ (samples : List Word) (s : State), moveInProgress s = false →
    let t := afterPolls samples s
    moveInProgress t = false ∧ t.evt = s.evt ∧ (t.spd = s.spd ∨ t.spd = 0#64)
    ∧ ∀ r : Reg, r ≠ .MOV → r ≠ .SPD → t.read r = s.read r

/-- 42_poll.md R114, first half, without the time bound: a move whose polls are all due takes exactly `|DIST|` of them. From a
state with an acting poll, `|DIST|` polls each of which finds its interval elapsed end with `POS = TGT`, `MOV`
still 1, and exactly `|DIST|` pulses, all in the direction of the sign of `DIST`, and one more poll clears `MOV`. -/
def Obligations.DuePollsReachTheTargetExactly : Prop :=
  ∀ (samples : List Word) (s : State), PollActs s → samples.length = (distToGo s).natAbs →
    (∀ (k : Nat) (now : Word), samples[k]? = some now →
      let u := atClock now (afterPolls (samples.take k) s)
      (intervalOf (nextSpeed u)).toNat ≤ elapsed now u.lst) →
    let t := afterPolls samples s
    t.pos = s.tgt ∧ t.tgt = s.tgt ∧ t.mov = true ∧ t.dir = decide (0 < distToGo s)
    ∧ t.evt = s.evt ++ (if s.dir = decide (0 < distToGo s) then [] else [.setDir (decide (0 < distToGo s))])
        ++ List.replicate (distToGo s).natAbs .pulse
    ∧ ∀ now : Word, exec .run (atClock now t) = .next { atClock now t with mov := false, spd := 0#64 }

/-- 42_poll.md R114, 70_reset_and_hazards.md R180: with `1 <= VMAX <= 15` a move from a speed within the clamp never steps and never
ends: after any sequence of polls, whatever the clock shows, `POS`, `TGT`, `MOV` and the trace are as before, no fault is recorded,
and `IS_RUNNING` still answers 1. -/
def Obligations.TinyMaximumSpeedNeverSteps : Prop :=
  ∀ (samples : List Word) (s : State), Inv s → PollActs s → s.vmax.toNat ≤ 15 → s.spd.toNat ≤ 1000000 * s.vmax.toNat →
    let t := afterPolls samples s
    t.pos = s.pos ∧ t.tgt = s.tgt ∧ t.evt = s.evt ∧ t.flt = s.flt ∧ t.lst = s.lst ∧ t.mov = true ∧ moveInProgress t = true

/-- 42_poll.md R114: with `VMAX >= 16` an interval of 2^32 microseconds or more lasts one poll only: an acting poll that finds one
leaves an interval below 2^32. -/
def Obligations.LongIntervalsAreIsolated : Prop :=
  ∀ s t : State, Inv s → PollActs s → 16 ≤ s.vmax.toNat → 4294967296 ≤ s.ivl.toNat → exec .run s = .next t →
    t.ivl.toNat < 4294967296

/-! ## Queries -/

/-- 43_query.md R120: `IS_RUNNING` answers 1 exactly when `MOV = 1` and the distance is not 0, whatever `EN` is. -/
def Obligations.IsRunningResult : Prop :=
  ∀ s : State, exec .isRunning s = .next { s with rsp := some (if s.mov = true ∧ s.tgt ≠ s.pos then 1#64 else 0#64) }

/-- 43_query.md R121, R122, R123: the answers of `GET_DIST` (the exact difference, read back as a signed 64-bit number), `GET_POS`
and `GET_SPEED`. -/
def Obligations.PositionAndSpeedQueryResults : Prop :=
  ∀ s : State,
    (∃ v : DWord, exec .getDist s = .next { s with rsp := some v } ∧ v.toInt = s.tgt.toInt - s.pos.toInt)
    ∧ exec .getPos s = .next { s with rsp := some (s.pos.signExtend 64) }
    ∧ exec .getSpeed s = .next { s with rsp := some s.spd }

/-- 43_query.md R124, 10_state.md R24, R25: `GET_STATUS` answers the status word, field by field, reserved bits 0. -/
def Obligations.StatusWordFields : Prop :=
  ∀ s : State, ∃ v : DWord, exec .getStatus s = .next { s with rsp := some v }
    ∧ v.getLsbD 0 = s.en ∧ v.getLsbD 1 = s.mov ∧ v.getLsbD 2 = s.dir ∧ v.getLsbD 3 = false
    ∧ v.extractLsb' 4 2 =
        (if s.en = false ∨ s.mov = false ∨ s.tgt = s.pos then 0#2
         else if 65536000000000000 * (2 * (s.tgt.toInt - s.pos.toInt).natAbs * s.dec.toNat) ≤ s.spd.toNat ^ 2 then 3#2
         else if 1000000 * s.vmax.toNat ≤ s.spd.toNat then 2#2
         else 1#2)
    ∧ v.extractLsb' 6 2 = 0#2 ∧ v.extractLsb' 8 4 = s.flt ∧ v.extractLsb' 12 52 = 0#52

/-- R125: none of the five queries writes a register, reads the clock, samples the geometry, emits an event or raises a fault, in
any state; and since only the response port differs, any later command does what it would have done. -/
def Obligations.QueriesArePure : Prop :=
  ∀ (i : Instr) (s t : State), (mnemonicOf i).format = .Q → exec i s = .next t →
    (∀ r : Reg, t.read r = s.read r) ∧ t = { s with rsp := t.rsp }
    ∧ (∀ p : Ports, exec i { s with ports := p } = .next { t with ports := p })
    ∧ ∀ j : Instr, ∃ u : State, exec j s = .next u ∧ exec j t = .next { u with rsp := if (mnemonicOf j).format = .Q then u.rsp else t.rsp }

/-! ## Faults, outputs and the whole machine -/

/-- R48: the level outputs, in every state. -/
def Obligations.LevelOutputsFollowTheRegisters : Prop :=
  ∀ s : State, enableO s = s.en ∧ dirO s = s.dir ∧ (faultO s = true ↔ s.flt ≠ 0#4)

/-- 60_exceptions.md R140: a command that sets a new fault bit has that one effect: no other register, no event, no response. -/
def Obligations.FaultingCommandDoesNothingElse : Prop :=
  ∀ (i : Instr) (s t : State), exec i s = .next t → t.flt ≠ s.flt → t = { s with flt := t.flt }

/-- 60_exceptions.md R141: which command can raise which fault: no command but the setters, `RUN` and the relative moves writes
`FLT`, each sets its own bit only, and no command sets `ILLEGAL_CMD`. -/
def Obligations.EachCommandSetsItsOwnFaultOnly : Prop :=
  ∀ (i : Instr) (s t : State), exec i s = .next t →
    t.flt = s.flt ∨ t.flt = s.flt |||
      (match i with
        | .setMaxSpeed _ | .setAccel _ | .setDecel _ => 0b0010#4
        | .run => 0b0100#4
        | .moveRel _ | .rotateDeg _ | .rotateRev _ => 0b1000#4
        | _ => 0b0000#4)

/-- R148: no step of the machine clears a fault bit unless `rst` is or becomes asserted, and reset clears them all; and a bit that
is set masks and blocks nothing: with more bits set, a command does what it would have done, the answer of `GET_STATUS`
apart. -/
def Obligations.OnlyResetClearsFaultBits : Prop :=
  (∀ s t : State, step s = .next t → s.ports.rst = false → t.ports.rst = false → s.flt ||| t.flt = t.flt)
  ∧ (∀ s : State, (resetEngine s).flt = 0#4)
  ∧ (∀ (i : Instr) (s t : State) (bits : BitVec 4), exec i s = .next t →
    ∃ rsp, exec i { s with flt := s.flt ||| bits } = .next { t with flt := t.flt ||| bits, rsp := rsp }
      ∧ (i ≠ .getStatus → rsp = t.rsp))

/-- 00_scope.md R8, the frame rule: no command but `RUN` writes `IVL`, `LST` or `DIR` or emits an event, and no command touches the
input ports, what is still to come on them, or the floor parameter; only a query responds. -/
def Obligations.FrameOfEveryCommand : Prop :=
  ∀ (i : Instr) (s t : State), exec i s = .next t →
    t.ports = s.ports ∧ t.env = s.env ∧ t.floorFx = s.floorFx
    ∧ ((mnemonicOf i).format ≠ .Q → t.rsp = s.rsp)
    ∧ (i ≠ .run → t.ivl = s.ivl ∧ t.lst = s.lst ∧ t.dir = s.dir ∧ t.evt = s.evt ∧ t.waiting = s.waiting)

/-- 10_state.md R10, the "Written by" column: a command changes a register only if the table lists it as a writer of that
register. -/
def Obligations.RegistersChangeOnlyByTheirWriters : Prop :=
  ∀ (i : Instr) (s t : State) (r : Reg), exec i s = .next t → t.read r ≠ s.read r →
    mnemonicOf i ∈ (match r with
      | .POS => [Mnemonic.run, .setHome]
      | .TGT => [Mnemonic.moveTo, .moveRel, .rotateDeg, .rotateRev, .goHome, .stop, .estop]
      | .SPD => [Mnemonic.run, .stop, .estop]
      | .VMAX => [Mnemonic.setMaxSpeed]
      | .ACC => [Mnemonic.setAccel]
      | .DEC => [Mnemonic.setDecel]
      | .IVL => [Mnemonic.run]
      | .LST => [Mnemonic.run]
      | .EN => [Mnemonic.enable, .disable, .estop]
      | .MOV => [Mnemonic.moveTo, .moveRel, .rotateDeg, .rotateRev, .goHome, .stop, .estop, .run]
      | .DIR => [Mnemonic.run]
      | .FLT => [Mnemonic.setMaxSpeed, .setAccel, .setDecel, .run, .moveRel, .rotateDeg, .rotateRev])

/-- 20_memory.md R46, 10_state.md R26: events are never dropped, merged or reordered: unless `rst` is or becomes asserted, every step keeps the
trace and appends nothing, a `Pulse`, or a `SetDir` of the new direction and then a `Pulse`. -/
def Obligations.EventTraceOnlyGrows : Prop :=
  ∀ s t : State, step s = .next t → s.ports.rst = false → t.ports.rst = false →
    t.evt = s.evt ∨ t.evt = s.evt ++ [.pulse] ∨ t.evt = s.evt ++ [.setDir t.dir, .pulse]

/-- 95_test_vectors.md X8: while `EN = 0` and the engine is not being reset, a step of the machine changes `POS` only if it transfers
a `SET_HOME` word, and sets `EN` only if it transfers an `ENABLE` word; a word that only stands on the port excuses neither. -/
def Obligations.DisabledEngineHoldsItsPosition : Prop :=
  ∀ s t : State, step s = .next t → s.en = false → s.ports.rst = false → t.ports.rst = false →
    (t.pos = s.pos ∨ ∃ w, fetch s = some w ∧ decode w = .command .setHome)
    ∧ (t.en = false ∨ ∃ w, fetch s = some w ∧ decode w = .command .enable)

/-- 10_state.md R28: the invariants hold right after reset, for every `FLOOR_SPEED_FX` of at least 1. Of `Inv`, `waits_on_driver`
(log 5) and `held_in_reset` (log 8) are the model's own. -/
def Obligations.ResetStateMeetsTheInvariants : Prop :=
  (∀ f : Word, 1 ≤ f.toNat → Inv (State.resetWith f)) ∧ Inv State.reset

/-- 10_state.md R28: every step keeps the invariants, with any command, clock value and geometry inputs. Of `Inv`,
`waits_on_driver` (log 5) and `held_in_reset` (log 8) are the model's own. -/
def Obligations.StepKeepsTheInvariants : Prop :=
  ∀ s t : State, Inv s → step s = .next t → Inv t
end

