-- ==== Sys2Proof/Laws/Arith.lean ====
section
/-! SUPPORT. The arithmetic of spec/00_scope.md R5 in the library's terms, and the bounds of the speed law's values
(spec/42_poll.md R110) that hold in every state. -/

namespace Sys2Proof.Machine

theorem s32_eq_toInt (w : Word) : s32 w = w.toInt := by
  unfold s32; rw [BitVec.toInt_eq_toNat_cond]; split <;> split <;> omega

theorem s32_ge (w : Word) : -2147483648 ≤ s32 w := by
  unfold s32; split <;> have := w.isLt <;> omega

theorem s32_le (w : Word) : s32 w ≤ 2147483647 := by
  unfold s32; split <;> have := w.isLt <;> omega

theorem s32_inj {v w : Word} (h : s32 v = s32 w) : v = w := by
  rw [s32_eq_toInt, s32_eq_toInt] at h; exact BitVec.eq_of_toInt_eq h

@[simp] theorem u32_s32 (w : Word) : u32 (s32 w) = w := by
  rw [u32, s32_eq_toInt, BitVec.ofInt_toInt]

/-- Reading back a value that fits: no write truncates (R5). -/
theorem s32_u32 {v : Int} (lo : -2147483648 ≤ v) (hi : v ≤ 2147483647) : s32 (u32 v) = v := by
  rw [s32_eq_toInt, u32, BitVec.toInt_ofInt, Int.bmod_eq_of_le] <;> omega

theorem fits32_eq_true {v : Int} : fits32 v = true ↔ -2147483648 ≤ v ∧ v ≤ 2147483647 := by
  unfold fits32 intMin intMax; norm_num

theorem fits32_s32 (w : Word) : fits32 (s32 w) = true := fits32_eq_true.2 ⟨s32_ge w, s32_le w⟩

/-- `trunc0` is the library's division that rounds toward zero. -/
theorem trunc0_eq_tdiv (n : Int) (d : Nat) : trunc0 n d = n.tdiv d := by
  unfold trunc0
  split
  · rw [Int.tdiv_eq_ediv_of_nonneg ‹_›]
  · rw [← Int.tdiv_eq_ediv_of_nonneg (by omega), Int.neg_tdiv, neg_neg]

theorem elapsed_eq (now lst : Word) : elapsed now lst = (now.toNat + 4294967296 - lst.toNat) % 4294967296 := by
  have hn := now.isLt
  have hl := lst.isLt
  rw [elapsed, u32, BitVec.toNat_ofInt]
  omega

theorem elapsed_lt (now lst : Word) : elapsed now lst < 4294967296 := by
  rw [elapsed_eq]; exact Nat.mod_lt _ (by omega)

theorem bk_eq : Config.bk = 65536000000000000 := rfl

theorem sFloor_eq (f : Word) : Config.sFloor f = f.toNat * 1000000 := Nat.mul_comm _ _

theorem speedClamp_eq (s : State) : speedClamp s = s.vmax.toNat * 1000000 := Nat.mul_comm _ _

theorem distToGo_eq_zero {s : State} : distToGo s = 0 ↔ s.tgt = s.pos := by
  unfold distToGo
  exact ⟨fun h => s32_inj (by omega), fun h => by rw [h]; omega⟩

theorem distToGo_eq_toInt (s : State) : distToGo s = s.tgt.toInt - s.pos.toInt := by
  rw [distToGo, s32_eq_toInt, s32_eq_toInt]

theorem brake_eq_true {s : State} :
    brake s = true ↔ 2 * (distToGo s).natAbs * s.dec.toNat * Config.bk ≤ s.spd.toNat * s.spd.toNat := by
  rw [brake, decide_eq_true_eq, Nat.mul_comm]

theorem unconfigured_eq_false {s : State} :
    unconfigured s = false ↔ s.vmax ≠ 0#32 ∧ s.acc ≠ 0#32 ∧ s.dec ≠ 0#32 := by
  simp [unconfigured, and_assoc]

theorem unconfigured_eq_true {s : State} :
    unconfigured s = true ↔ s.vmax = 0#32 ∨ s.acc = 0#32 ∨ s.dec = 0#32 := by
  simp [unconfigured, or_assoc]

/-- The deceleration branch, in natural numbers (R105). -/
theorem nextSpeed_of_brake {s : State} (h : brake s = true) :
    nextSpeed s = max (s.spd.toNat - s.dec.toNat * s.ivl.toNat) (Config.sFloor s.floorFx) := by
  rw [nextSpeed, if_pos h, ← Int.natCast_mul]
  omega

/-- The acceleration branch (R106). -/
theorem nextSpeed_of_not_brake {s : State} (h : brake s = false) :
    nextSpeed s = min (s.spd.toNat + s.acc.toNat * s.ivl.toNat) (speedClamp s) := by
  rw [nextSpeed, if_neg (by simp [h])]

/-- The new speed fits its register in every state (R5, R110). -/
theorem nextSpeed_lt (s : State) : nextSpeed s < 2 ^ 64 := by
  have hs := s.spd.isLt
  have hf := s.floorFx.isLt
  have hv := s.vmax.isLt
  cases h : brake s
  · rw [nextSpeed_of_not_brake h, speedClamp_eq]; omega
  · rw [nextSpeed_of_brake h, sFloor_eq]; omega

/-- The new interval for a positive speed (R107); it fits its register. -/
theorem intervalOf_toNat {n : Nat} (h : n ≠ 0) : (intervalOf n).toNat = Config.bk / n := by
  rw [intervalOf, if_neg h, BitVec.toNat_ofNat, Nat.mod_eq_of_lt]
  exact lt_of_le_of_lt (Nat.div_le_self _ _) (by decide)

end Sys2Proof.Machine
end

