-- ==== Sys2Proof/Laws/State.lean ====
section
/-! SUPPORT. One lemma per field per update of the state, all by `rfl`, so that no later proof unfolds a record update. -/

namespace Sys2Proof.Machine

section

variable (s : State)

@[simp] theorem setPos_pos (v : Word) : (s.setPos v).pos = v := rfl
@[simp] theorem setPos_tgt (v : Word) : (s.setPos v).tgt = s.tgt := rfl
@[simp] theorem setPos_spd (v : Word) : (s.setPos v).spd = s.spd := rfl
@[simp] theorem setPos_vmax (v : Word) : (s.setPos v).vmax = s.vmax := rfl
@[simp] theorem setPos_acc (v : Word) : (s.setPos v).acc = s.acc := rfl
@[simp] theorem setPos_dec (v : Word) : (s.setPos v).dec = s.dec := rfl
@[simp] theorem setPos_ivl (v : Word) : (s.setPos v).ivl = s.ivl := rfl
@[simp] theorem setPos_lst (v : Word) : (s.setPos v).lst = s.lst := rfl
@[simp] theorem setPos_en (v : Word) : (s.setPos v).en = s.en := rfl
@[simp] theorem setPos_mov (v : Word) : (s.setPos v).mov = s.mov := rfl
@[simp] theorem setPos_dir (v : Word) : (s.setPos v).dir = s.dir := rfl
@[simp] theorem setPos_flt (v : Word) : (s.setPos v).flt = s.flt := rfl
@[simp] theorem setPos_evt (v : Word) : (s.setPos v).evt = s.evt := rfl
@[simp] theorem setPos_rsp (v : Word) : (s.setPos v).rsp = s.rsp := rfl
@[simp] theorem setPos_waiting (v : Word) : (s.setPos v).waiting = s.waiting := rfl
@[simp] theorem setPos_ports (v : Word) : (s.setPos v).ports = s.ports := rfl
@[simp] theorem setPos_env (v : Word) : (s.setPos v).env = s.env := rfl
@[simp] theorem setPos_floorFx (v : Word) : (s.setPos v).floorFx = s.floorFx := rfl

@[simp] theorem setTgt_pos (v : Word) : (s.setTgt v).pos = s.pos := rfl
@[simp] theorem setTgt_tgt (v : Word) : (s.setTgt v).tgt = v := rfl
@[simp] theorem setTgt_spd (v : Word) : (s.setTgt v).spd = s.spd := rfl
@[simp] theorem setTgt_vmax (v : Word) : (s.setTgt v).vmax = s.vmax := rfl
@[simp] theorem setTgt_acc (v : Word) : (s.setTgt v).acc = s.acc := rfl
@[simp] theorem setTgt_dec (v : Word) : (s.setTgt v).dec = s.dec := rfl
@[simp] theorem setTgt_ivl (v : Word) : (s.setTgt v).ivl = s.ivl := rfl
@[simp] theorem setTgt_lst (v : Word) : (s.setTgt v).lst = s.lst := rfl
@[simp] theorem setTgt_en (v : Word) : (s.setTgt v).en = s.en := rfl
@[simp] theorem setTgt_mov (v : Word) : (s.setTgt v).mov = s.mov := rfl
@[simp] theorem setTgt_dir (v : Word) : (s.setTgt v).dir = s.dir := rfl
@[simp] theorem setTgt_flt (v : Word) : (s.setTgt v).flt = s.flt := rfl
@[simp] theorem setTgt_evt (v : Word) : (s.setTgt v).evt = s.evt := rfl
@[simp] theorem setTgt_rsp (v : Word) : (s.setTgt v).rsp = s.rsp := rfl
@[simp] theorem setTgt_waiting (v : Word) : (s.setTgt v).waiting = s.waiting := rfl
@[simp] theorem setTgt_ports (v : Word) : (s.setTgt v).ports = s.ports := rfl
@[simp] theorem setTgt_env (v : Word) : (s.setTgt v).env = s.env := rfl
@[simp] theorem setTgt_floorFx (v : Word) : (s.setTgt v).floorFx = s.floorFx := rfl

@[simp] theorem setSpd_pos (v : DWord) : (s.setSpd v).pos = s.pos := rfl
@[simp] theorem setSpd_tgt (v : DWord) : (s.setSpd v).tgt = s.tgt := rfl
@[simp] theorem setSpd_spd (v : DWord) : (s.setSpd v).spd = v := rfl
@[simp] theorem setSpd_vmax (v : DWord) : (s.setSpd v).vmax = s.vmax := rfl
@[simp] theorem setSpd_acc (v : DWord) : (s.setSpd v).acc = s.acc := rfl
@[simp] theorem setSpd_dec (v : DWord) : (s.setSpd v).dec = s.dec := rfl
@[simp] theorem setSpd_ivl (v : DWord) : (s.setSpd v).ivl = s.ivl := rfl
@[simp] theorem setSpd_lst (v : DWord) : (s.setSpd v).lst = s.lst := rfl
@[simp] theorem setSpd_en (v : DWord) : (s.setSpd v).en = s.en := rfl
@[simp] theorem setSpd_mov (v : DWord) : (s.setSpd v).mov = s.mov := rfl
@[simp] theorem setSpd_dir (v : DWord) : (s.setSpd v).dir = s.dir := rfl
@[simp] theorem setSpd_flt (v : DWord) : (s.setSpd v).flt = s.flt := rfl
@[simp] theorem setSpd_evt (v : DWord) : (s.setSpd v).evt = s.evt := rfl
@[simp] theorem setSpd_rsp (v : DWord) : (s.setSpd v).rsp = s.rsp := rfl
@[simp] theorem setSpd_waiting (v : DWord) : (s.setSpd v).waiting = s.waiting := rfl
@[simp] theorem setSpd_ports (v : DWord) : (s.setSpd v).ports = s.ports := rfl
@[simp] theorem setSpd_env (v : DWord) : (s.setSpd v).env = s.env := rfl
@[simp] theorem setSpd_floorFx (v : DWord) : (s.setSpd v).floorFx = s.floorFx := rfl

@[simp] theorem setVmax_pos (v : Word) : (s.setVmax v).pos = s.pos := rfl
@[simp] theorem setVmax_tgt (v : Word) : (s.setVmax v).tgt = s.tgt := rfl
@[simp] theorem setVmax_spd (v : Word) : (s.setVmax v).spd = s.spd := rfl
@[simp] theorem setVmax_vmax (v : Word) : (s.setVmax v).vmax = v := rfl
@[simp] theorem setVmax_acc (v : Word) : (s.setVmax v).acc = s.acc := rfl
@[simp] theorem setVmax_dec (v : Word) : (s.setVmax v).dec = s.dec := rfl
@[simp] theorem setVmax_ivl (v : Word) : (s.setVmax v).ivl = s.ivl := rfl
@[simp] theorem setVmax_lst (v : Word) : (s.setVmax v).lst = s.lst := rfl
@[simp] theorem setVmax_en (v : Word) : (s.setVmax v).en = s.en := rfl
@[simp] theorem setVmax_mov (v : Word) : (s.setVmax v).mov = s.mov := rfl
@[simp] theorem setVmax_dir (v : Word) : (s.setVmax v).dir = s.dir := rfl
@[simp] theorem setVmax_flt (v : Word) : (s.setVmax v).flt = s.flt := rfl
@[simp] theorem setVmax_evt (v : Word) : (s.setVmax v).evt = s.evt := rfl
@[simp] theorem setVmax_rsp (v : Word) : (s.setVmax v).rsp = s.rsp := rfl
@[simp] theorem setVmax_waiting (v : Word) : (s.setVmax v).waiting = s.waiting := rfl
@[simp] theorem setVmax_ports (v : Word) : (s.setVmax v).ports = s.ports := rfl
@[simp] theorem setVmax_env (v : Word) : (s.setVmax v).env = s.env := rfl
@[simp] theorem setVmax_floorFx (v : Word) : (s.setVmax v).floorFx = s.floorFx := rfl

@[simp] theorem setAcc_pos (v : Word) : (s.setAcc v).pos = s.pos := rfl
@[simp] theorem setAcc_tgt (v : Word) : (s.setAcc v).tgt = s.tgt := rfl
@[simp] theorem setAcc_spd (v : Word) : (s.setAcc v).spd = s.spd := rfl
@[simp] theorem setAcc_vmax (v : Word) : (s.setAcc v).vmax = s.vmax := rfl
@[simp] theorem setAcc_acc (v : Word) : (s.setAcc v).acc = v := rfl
@[simp] theorem setAcc_dec (v : Word) : (s.setAcc v).dec = s.dec := rfl
@[simp] theorem setAcc_ivl (v : Word) : (s.setAcc v).ivl = s.ivl := rfl
@[simp] theorem setAcc_lst (v : Word) : (s.setAcc v).lst = s.lst := rfl
@[simp] theorem setAcc_en (v : Word) : (s.setAcc v).en = s.en := rfl
@[simp] theorem setAcc_mov (v : Word) : (s.setAcc v).mov = s.mov := rfl
@[simp] theorem setAcc_dir (v : Word) : (s.setAcc v).dir = s.dir := rfl
@[simp] theorem setAcc_flt (v : Word) : (s.setAcc v).flt = s.flt := rfl
@[simp] theorem setAcc_evt (v : Word) : (s.setAcc v).evt = s.evt := rfl
@[simp] theorem setAcc_rsp (v : Word) : (s.setAcc v).rsp = s.rsp := rfl
@[simp] theorem setAcc_waiting (v : Word) : (s.setAcc v).waiting = s.waiting := rfl
@[simp] theorem setAcc_ports (v : Word) : (s.setAcc v).ports = s.ports := rfl
@[simp] theorem setAcc_env (v : Word) : (s.setAcc v).env = s.env := rfl
@[simp] theorem setAcc_floorFx (v : Word) : (s.setAcc v).floorFx = s.floorFx := rfl

@[simp] theorem setDec_pos (v : Word) : (s.setDec v).pos = s.pos := rfl
@[simp] theorem setDec_tgt (v : Word) : (s.setDec v).tgt = s.tgt := rfl
@[simp] theorem setDec_spd (v : Word) : (s.setDec v).spd = s.spd := rfl
@[simp] theorem setDec_vmax (v : Word) : (s.setDec v).vmax = s.vmax := rfl
@[simp] theorem setDec_acc (v : Word) : (s.setDec v).acc = s.acc := rfl
@[simp] theorem setDec_dec (v : Word) : (s.setDec v).dec = v := rfl
@[simp] theorem setDec_ivl (v : Word) : (s.setDec v).ivl = s.ivl := rfl
@[simp] theorem setDec_lst (v : Word) : (s.setDec v).lst = s.lst := rfl
@[simp] theorem setDec_en (v : Word) : (s.setDec v).en = s.en := rfl
@[simp] theorem setDec_mov (v : Word) : (s.setDec v).mov = s.mov := rfl
@[simp] theorem setDec_dir (v : Word) : (s.setDec v).dir = s.dir := rfl
@[simp] theorem setDec_flt (v : Word) : (s.setDec v).flt = s.flt := rfl
@[simp] theorem setDec_evt (v : Word) : (s.setDec v).evt = s.evt := rfl
@[simp] theorem setDec_rsp (v : Word) : (s.setDec v).rsp = s.rsp := rfl
@[simp] theorem setDec_waiting (v : Word) : (s.setDec v).waiting = s.waiting := rfl
@[simp] theorem setDec_ports (v : Word) : (s.setDec v).ports = s.ports := rfl
@[simp] theorem setDec_env (v : Word) : (s.setDec v).env = s.env := rfl
@[simp] theorem setDec_floorFx (v : Word) : (s.setDec v).floorFx = s.floorFx := rfl

@[simp] theorem setIvl_pos (v : DWord) : (s.setIvl v).pos = s.pos := rfl
@[simp] theorem setIvl_tgt (v : DWord) : (s.setIvl v).tgt = s.tgt := rfl
@[simp] theorem setIvl_spd (v : DWord) : (s.setIvl v).spd = s.spd := rfl
@[simp] theorem setIvl_vmax (v : DWord) : (s.setIvl v).vmax = s.vmax := rfl
@[simp] theorem setIvl_acc (v : DWord) : (s.setIvl v).acc = s.acc := rfl
@[simp] theorem setIvl_dec (v : DWord) : (s.setIvl v).dec = s.dec := rfl
@[simp] theorem setIvl_ivl (v : DWord) : (s.setIvl v).ivl = v := rfl
@[simp] theorem setIvl_lst (v : DWord) : (s.setIvl v).lst = s.lst := rfl
@[simp] theorem setIvl_en (v : DWord) : (s.setIvl v).en = s.en := rfl
@[simp] theorem setIvl_mov (v : DWord) : (s.setIvl v).mov = s.mov := rfl
@[simp] theorem setIvl_dir (v : DWord) : (s.setIvl v).dir = s.dir := rfl
@[simp] theorem setIvl_flt (v : DWord) : (s.setIvl v).flt = s.flt := rfl
@[simp] theorem setIvl_evt (v : DWord) : (s.setIvl v).evt = s.evt := rfl
@[simp] theorem setIvl_rsp (v : DWord) : (s.setIvl v).rsp = s.rsp := rfl
@[simp] theorem setIvl_waiting (v : DWord) : (s.setIvl v).waiting = s.waiting := rfl
@[simp] theorem setIvl_ports (v : DWord) : (s.setIvl v).ports = s.ports := rfl
@[simp] theorem setIvl_env (v : DWord) : (s.setIvl v).env = s.env := rfl
@[simp] theorem setIvl_floorFx (v : DWord) : (s.setIvl v).floorFx = s.floorFx := rfl

@[simp] theorem setLst_pos (v : Word) : (s.setLst v).pos = s.pos := rfl
@[simp] theorem setLst_tgt (v : Word) : (s.setLst v).tgt = s.tgt := rfl
@[simp] theorem setLst_spd (v : Word) : (s.setLst v).spd = s.spd := rfl
@[simp] theorem setLst_vmax (v : Word) : (s.setLst v).vmax = s.vmax := rfl
@[simp] theorem setLst_acc (v : Word) : (s.setLst v).acc = s.acc := rfl
@[simp] theorem setLst_dec (v : Word) : (s.setLst v).dec = s.dec := rfl
@[simp] theorem setLst_ivl (v : Word) : (s.setLst v).ivl = s.ivl := rfl
@[simp] theorem setLst_lst (v : Word) : (s.setLst v).lst = v := rfl
@[simp] theorem setLst_en (v : Word) : (s.setLst v).en = s.en := rfl
@[simp] theorem setLst_mov (v : Word) : (s.setLst v).mov = s.mov := rfl
@[simp] theorem setLst_dir (v : Word) : (s.setLst v).dir = s.dir := rfl
@[simp] theorem setLst_flt (v : Word) : (s.setLst v).flt = s.flt := rfl
@[simp] theorem setLst_evt (v : Word) : (s.setLst v).evt = s.evt := rfl
@[simp] theorem setLst_rsp (v : Word) : (s.setLst v).rsp = s.rsp := rfl
@[simp] theorem setLst_waiting (v : Word) : (s.setLst v).waiting = s.waiting := rfl
@[simp] theorem setLst_ports (v : Word) : (s.setLst v).ports = s.ports := rfl
@[simp] theorem setLst_env (v : Word) : (s.setLst v).env = s.env := rfl
@[simp] theorem setLst_floorFx (v : Word) : (s.setLst v).floorFx = s.floorFx := rfl

@[simp] theorem setEn_pos (v : Bool) : (s.setEn v).pos = s.pos := rfl
@[simp] theorem setEn_tgt (v : Bool) : (s.setEn v).tgt = s.tgt := rfl
@[simp] theorem setEn_spd (v : Bool) : (s.setEn v).spd = s.spd := rfl
@[simp] theorem setEn_vmax (v : Bool) : (s.setEn v).vmax = s.vmax := rfl
@[simp] theorem setEn_acc (v : Bool) : (s.setEn v).acc = s.acc := rfl
@[simp] theorem setEn_dec (v : Bool) : (s.setEn v).dec = s.dec := rfl
@[simp] theorem setEn_ivl (v : Bool) : (s.setEn v).ivl = s.ivl := rfl
@[simp] theorem setEn_lst (v : Bool) : (s.setEn v).lst = s.lst := rfl
@[simp] theorem setEn_en (v : Bool) : (s.setEn v).en = v := rfl
@[simp] theorem setEn_mov (v : Bool) : (s.setEn v).mov = s.mov := rfl
@[simp] theorem setEn_dir (v : Bool) : (s.setEn v).dir = s.dir := rfl
@[simp] theorem setEn_flt (v : Bool) : (s.setEn v).flt = s.flt := rfl
@[simp] theorem setEn_evt (v : Bool) : (s.setEn v).evt = s.evt := rfl
@[simp] theorem setEn_rsp (v : Bool) : (s.setEn v).rsp = s.rsp := rfl
@[simp] theorem setEn_waiting (v : Bool) : (s.setEn v).waiting = s.waiting := rfl
@[simp] theorem setEn_ports (v : Bool) : (s.setEn v).ports = s.ports := rfl
@[simp] theorem setEn_env (v : Bool) : (s.setEn v).env = s.env := rfl
@[simp] theorem setEn_floorFx (v : Bool) : (s.setEn v).floorFx = s.floorFx := rfl

@[simp] theorem setMov_pos (v : Bool) : (s.setMov v).pos = s.pos := rfl
@[simp] theorem setMov_tgt (v : Bool) : (s.setMov v).tgt = s.tgt := rfl
@[simp] theorem setMov_spd (v : Bool) : (s.setMov v).spd = s.spd := rfl
@[simp] theorem setMov_vmax (v : Bool) : (s.setMov v).vmax = s.vmax := rfl
@[simp] theorem setMov_acc (v : Bool) : (s.setMov v).acc = s.acc := rfl
@[simp] theorem setMov_dec (v : Bool) : (s.setMov v).dec = s.dec := rfl
@[simp] theorem setMov_ivl (v : Bool) : (s.setMov v).ivl = s.ivl := rfl
@[simp] theorem setMov_lst (v : Bool) : (s.setMov v).lst = s.lst := rfl
@[simp] theorem setMov_en (v : Bool) : (s.setMov v).en = s.en := rfl
@[simp] theorem setMov_mov (v : Bool) : (s.setMov v).mov = v := rfl
@[simp] theorem setMov_dir (v : Bool) : (s.setMov v).dir = s.dir := rfl
@[simp] theorem setMov_flt (v : Bool) : (s.setMov v).flt = s.flt := rfl
@[simp] theorem setMov_evt (v : Bool) : (s.setMov v).evt = s.evt := rfl
@[simp] theorem setMov_rsp (v : Bool) : (s.setMov v).rsp = s.rsp := rfl
@[simp] theorem setMov_waiting (v : Bool) : (s.setMov v).waiting = s.waiting := rfl
@[simp] theorem setMov_ports (v : Bool) : (s.setMov v).ports = s.ports := rfl
@[simp] theorem setMov_env (v : Bool) : (s.setMov v).env = s.env := rfl
@[simp] theorem setMov_floorFx (v : Bool) : (s.setMov v).floorFx = s.floorFx := rfl

@[simp] theorem setDir_pos (v : Bool) : (s.setDir v).pos = s.pos := rfl
@[simp] theorem setDir_tgt (v : Bool) : (s.setDir v).tgt = s.tgt := rfl
@[simp] theorem setDir_spd (v : Bool) : (s.setDir v).spd = s.spd := rfl
@[simp] theorem setDir_vmax (v : Bool) : (s.setDir v).vmax = s.vmax := rfl
@[simp] theorem setDir_acc (v : Bool) : (s.setDir v).acc = s.acc := rfl
@[simp] theorem setDir_dec (v : Bool) : (s.setDir v).dec = s.dec := rfl
@[simp] theorem setDir_ivl (v : Bool) : (s.setDir v).ivl = s.ivl := rfl
@[simp] theorem setDir_lst (v : Bool) : (s.setDir v).lst = s.lst := rfl
@[simp] theorem setDir_en (v : Bool) : (s.setDir v).en = s.en := rfl
@[simp] theorem setDir_mov (v : Bool) : (s.setDir v).mov = s.mov := rfl
@[simp] theorem setDir_dir (v : Bool) : (s.setDir v).dir = v := rfl
@[simp] theorem setDir_flt (v : Bool) : (s.setDir v).flt = s.flt := rfl
@[simp] theorem setDir_evt (v : Bool) : (s.setDir v).evt = s.evt := rfl
@[simp] theorem setDir_rsp (v : Bool) : (s.setDir v).rsp = s.rsp := rfl
@[simp] theorem setDir_waiting (v : Bool) : (s.setDir v).waiting = s.waiting := rfl
@[simp] theorem setDir_ports (v : Bool) : (s.setDir v).ports = s.ports := rfl
@[simp] theorem setDir_env (v : Bool) : (s.setDir v).env = s.env := rfl
@[simp] theorem setDir_floorFx (v : Bool) : (s.setDir v).floorFx = s.floorFx := rfl

@[simp] theorem raiseFault_pos (f : FaultBit) : (raiseFault f s).pos = s.pos := rfl
@[simp] theorem raiseFault_tgt (f : FaultBit) : (raiseFault f s).tgt = s.tgt := rfl
@[simp] theorem raiseFault_spd (f : FaultBit) : (raiseFault f s).spd = s.spd := rfl
@[simp] theorem raiseFault_vmax (f : FaultBit) : (raiseFault f s).vmax = s.vmax := rfl
@[simp] theorem raiseFault_acc (f : FaultBit) : (raiseFault f s).acc = s.acc := rfl
@[simp] theorem raiseFault_dec (f : FaultBit) : (raiseFault f s).dec = s.dec := rfl
@[simp] theorem raiseFault_ivl (f : FaultBit) : (raiseFault f s).ivl = s.ivl := rfl
@[simp] theorem raiseFault_lst (f : FaultBit) : (raiseFault f s).lst = s.lst := rfl
@[simp] theorem raiseFault_en (f : FaultBit) : (raiseFault f s).en = s.en := rfl
@[simp] theorem raiseFault_mov (f : FaultBit) : (raiseFault f s).mov = s.mov := rfl
@[simp] theorem raiseFault_dir (f : FaultBit) : (raiseFault f s).dir = s.dir := rfl
@[simp] theorem raiseFault_flt (f : FaultBit) : (raiseFault f s).flt = s.flt ||| faultMask f := rfl
@[simp] theorem raiseFault_evt (f : FaultBit) : (raiseFault f s).evt = s.evt := rfl
@[simp] theorem raiseFault_rsp (f : FaultBit) : (raiseFault f s).rsp = s.rsp := rfl
@[simp] theorem raiseFault_waiting (f : FaultBit) : (raiseFault f s).waiting = s.waiting := rfl
@[simp] theorem raiseFault_ports (f : FaultBit) : (raiseFault f s).ports = s.ports := rfl
@[simp] theorem raiseFault_env (f : FaultBit) : (raiseFault f s).env = s.env := rfl
@[simp] theorem raiseFault_floorFx (f : FaultBit) : (raiseFault f s).floorFx = s.floorFx := rfl

@[simp] theorem respond_pos (v : DWord) : (respond v s).pos = s.pos := rfl
@[simp] theorem respond_tgt (v : DWord) : (respond v s).tgt = s.tgt := rfl
@[simp] theorem respond_spd (v : DWord) : (respond v s).spd = s.spd := rfl
@[simp] theorem respond_vmax (v : DWord) : (respond v s).vmax = s.vmax := rfl
@[simp] theorem respond_acc (v : DWord) : (respond v s).acc = s.acc := rfl
@[simp] theorem respond_dec (v : DWord) : (respond v s).dec = s.dec := rfl
@[simp] theorem respond_ivl (v : DWord) : (respond v s).ivl = s.ivl := rfl
@[simp] theorem respond_lst (v : DWord) : (respond v s).lst = s.lst := rfl
@[simp] theorem respond_en (v : DWord) : (respond v s).en = s.en := rfl
@[simp] theorem respond_mov (v : DWord) : (respond v s).mov = s.mov := rfl
@[simp] theorem respond_dir (v : DWord) : (respond v s).dir = s.dir := rfl
@[simp] theorem respond_flt (v : DWord) : (respond v s).flt = s.flt := rfl
@[simp] theorem respond_evt (v : DWord) : (respond v s).evt = s.evt := rfl
@[simp] theorem respond_rsp (v : DWord) : (respond v s).rsp = some v := rfl
@[simp] theorem respond_waiting (v : DWord) : (respond v s).waiting = s.waiting := rfl
@[simp] theorem respond_ports (v : DWord) : (respond v s).ports = s.ports := rfl
@[simp] theorem respond_env (v : DWord) : (respond v s).env = s.env := rfl
@[simp] theorem respond_floorFx (v : DWord) : (respond v s).floorFx = s.floorFx := rfl

@[simp] theorem appendEvent_pos (e : Event) : (appendEvent e s).pos = s.pos := rfl
@[simp] theorem appendEvent_tgt (e : Event) : (appendEvent e s).tgt = s.tgt := rfl
@[simp] theorem appendEvent_spd (e : Event) : (appendEvent e s).spd = s.spd := rfl
@[simp] theorem appendEvent_vmax (e : Event) : (appendEvent e s).vmax = s.vmax := rfl
@[simp] theorem appendEvent_acc (e : Event) : (appendEvent e s).acc = s.acc := rfl
@[simp] theorem appendEvent_dec (e : Event) : (appendEvent e s).dec = s.dec := rfl
@[simp] theorem appendEvent_ivl (e : Event) : (appendEvent e s).ivl = s.ivl := rfl
@[simp] theorem appendEvent_lst (e : Event) : (appendEvent e s).lst = s.lst := rfl
@[simp] theorem appendEvent_en (e : Event) : (appendEvent e s).en = s.en := rfl
@[simp] theorem appendEvent_mov (e : Event) : (appendEvent e s).mov = s.mov := rfl
@[simp] theorem appendEvent_dir (e : Event) : (appendEvent e s).dir = s.dir := rfl
@[simp] theorem appendEvent_flt (e : Event) : (appendEvent e s).flt = s.flt := rfl
@[simp] theorem appendEvent_evt (e : Event) : (appendEvent e s).evt = s.evt ++ [e] := rfl
@[simp] theorem appendEvent_rsp (e : Event) : (appendEvent e s).rsp = s.rsp := rfl
@[simp] theorem appendEvent_waiting (e : Event) : (appendEvent e s).waiting = s.waiting := rfl
@[simp] theorem appendEvent_ports (e : Event) : (appendEvent e s).ports = s.ports := rfl
@[simp] theorem appendEvent_env (e : Event) : (appendEvent e s).env = s.env := rfl
@[simp] theorem appendEvent_floorFx (e : Event) : (appendEvent e s).floorFx = s.floorFx := rfl

@[simp] theorem emitPulse_pos : (emitPulse s).pos = s.pos := rfl
@[simp] theorem emitPulse_tgt : (emitPulse s).tgt = s.tgt := rfl
@[simp] theorem emitPulse_spd : (emitPulse s).spd = s.spd := rfl
@[simp] theorem emitPulse_vmax : (emitPulse s).vmax = s.vmax := rfl
@[simp] theorem emitPulse_acc : (emitPulse s).acc = s.acc := rfl
@[simp] theorem emitPulse_dec : (emitPulse s).dec = s.dec := rfl
@[simp] theorem emitPulse_ivl : (emitPulse s).ivl = s.ivl := rfl
@[simp] theorem emitPulse_lst : (emitPulse s).lst = s.lst := rfl
@[simp] theorem emitPulse_en : (emitPulse s).en = s.en := rfl
@[simp] theorem emitPulse_mov : (emitPulse s).mov = s.mov := rfl
@[simp] theorem emitPulse_dir : (emitPulse s).dir = s.dir := rfl
@[simp] theorem emitPulse_flt : (emitPulse s).flt = s.flt := rfl
@[simp] theorem emitPulse_evt : (emitPulse s).evt = s.evt ++ [.pulse] := rfl
@[simp] theorem emitPulse_rsp : (emitPulse s).rsp = s.rsp := rfl
@[simp] theorem emitPulse_waiting : (emitPulse s).waiting = s.ports.drvBusy := rfl
@[simp] theorem emitPulse_ports : (emitPulse s).ports = s.ports := rfl
@[simp] theorem emitPulse_env : (emitPulse s).env = s.env := rfl
@[simp] theorem emitPulse_floorFx : (emitPulse s).floorFx = s.floorFx := rfl

@[simp] theorem acceptCommand_pos : (acceptCommand s).pos = s.pos := rfl
@[simp] theorem acceptCommand_tgt : (acceptCommand s).tgt = s.tgt := rfl
@[simp] theorem acceptCommand_spd : (acceptCommand s).spd = s.spd := rfl
@[simp] theorem acceptCommand_vmax : (acceptCommand s).vmax = s.vmax := rfl
@[simp] theorem acceptCommand_acc : (acceptCommand s).acc = s.acc := rfl
@[simp] theorem acceptCommand_dec : (acceptCommand s).dec = s.dec := rfl
@[simp] theorem acceptCommand_ivl : (acceptCommand s).ivl = s.ivl := rfl
@[simp] theorem acceptCommand_lst : (acceptCommand s).lst = s.lst := rfl
@[simp] theorem acceptCommand_en : (acceptCommand s).en = s.en := rfl
@[simp] theorem acceptCommand_mov : (acceptCommand s).mov = s.mov := rfl
@[simp] theorem acceptCommand_dir : (acceptCommand s).dir = s.dir := rfl
@[simp] theorem acceptCommand_flt : (acceptCommand s).flt = s.flt := rfl
@[simp] theorem acceptCommand_evt : (acceptCommand s).evt = s.evt := rfl
@[simp] theorem acceptCommand_rsp : (acceptCommand s).rsp = none := rfl
@[simp] theorem acceptCommand_waiting : (acceptCommand s).waiting = false := rfl
@[simp] theorem acceptCommand_ports : (acceptCommand s).ports = { s.ports with cmdValid := false } := rfl
@[simp] theorem acceptCommand_env : (acceptCommand s).env = s.env := rfl
@[simp] theorem acceptCommand_floorFx : (acceptCommand s).floorFx = s.floorFx := rfl

@[simp] theorem atClock_pos (t : Word) : (atClock t s).pos = s.pos := rfl
@[simp] theorem atClock_tgt (t : Word) : (atClock t s).tgt = s.tgt := rfl
@[simp] theorem atClock_spd (t : Word) : (atClock t s).spd = s.spd := rfl
@[simp] theorem atClock_vmax (t : Word) : (atClock t s).vmax = s.vmax := rfl
@[simp] theorem atClock_acc (t : Word) : (atClock t s).acc = s.acc := rfl
@[simp] theorem atClock_dec (t : Word) : (atClock t s).dec = s.dec := rfl
@[simp] theorem atClock_ivl (t : Word) : (atClock t s).ivl = s.ivl := rfl
@[simp] theorem atClock_lst (t : Word) : (atClock t s).lst = s.lst := rfl
@[simp] theorem atClock_en (t : Word) : (atClock t s).en = s.en := rfl
@[simp] theorem atClock_mov (t : Word) : (atClock t s).mov = s.mov := rfl
@[simp] theorem atClock_dir (t : Word) : (atClock t s).dir = s.dir := rfl
@[simp] theorem atClock_flt (t : Word) : (atClock t s).flt = s.flt := rfl
@[simp] theorem atClock_evt (t : Word) : (atClock t s).evt = s.evt := rfl
@[simp] theorem atClock_rsp (t : Word) : (atClock t s).rsp = s.rsp := rfl
@[simp] theorem atClock_waiting (t : Word) : (atClock t s).waiting = s.waiting := rfl
@[simp] theorem atClock_ports (t : Word) : (atClock t s).ports = { s.ports with nowUs := t } := rfl
@[simp] theorem atClock_env (t : Word) : (atClock t s).env = s.env := rfl
@[simp] theorem atClock_floorFx (t : Word) : (atClock t s).floorFx = s.floorFx := rfl

@[simp] theorem presentWord_pos (w : CmdWord) : (presentWord w s).pos = s.pos := rfl
@[simp] theorem presentWord_tgt (w : CmdWord) : (presentWord w s).tgt = s.tgt := rfl
@[simp] theorem presentWord_spd (w : CmdWord) : (presentWord w s).spd = s.spd := rfl
@[simp] theorem presentWord_vmax (w : CmdWord) : (presentWord w s).vmax = s.vmax := rfl
@[simp] theorem presentWord_acc (w : CmdWord) : (presentWord w s).acc = s.acc := rfl
@[simp] theorem presentWord_dec (w : CmdWord) : (presentWord w s).dec = s.dec := rfl
@[simp] theorem presentWord_ivl (w : CmdWord) : (presentWord w s).ivl = s.ivl := rfl
@[simp] theorem presentWord_lst (w : CmdWord) : (presentWord w s).lst = s.lst := rfl
@[simp] theorem presentWord_en (w : CmdWord) : (presentWord w s).en = s.en := rfl
@[simp] theorem presentWord_mov (w : CmdWord) : (presentWord w s).mov = s.mov := rfl
@[simp] theorem presentWord_dir (w : CmdWord) : (presentWord w s).dir = s.dir := rfl
@[simp] theorem presentWord_flt (w : CmdWord) : (presentWord w s).flt = s.flt := rfl
@[simp] theorem presentWord_evt (w : CmdWord) : (presentWord w s).evt = s.evt := rfl
@[simp] theorem presentWord_rsp (w : CmdWord) : (presentWord w s).rsp = s.rsp := rfl
@[simp] theorem presentWord_waiting (w : CmdWord) : (presentWord w s).waiting = false := rfl
@[simp] theorem presentWord_ports (w : CmdWord) : (presentWord w s).ports = { s.ports with rst := false, cmdValid := true, cmdWord := w } := rfl
@[simp] theorem presentWord_env (w : CmdWord) : (presentWord w s).env = s.env := rfl
@[simp] theorem presentWord_floorFx (w : CmdWord) : (presentWord w s).floorFx = s.floorFx := rfl

@[simp] theorem resetEngine_pos : (resetEngine s).pos = 0#32 := rfl
@[simp] theorem resetEngine_tgt : (resetEngine s).tgt = 0#32 := rfl
@[simp] theorem resetEngine_spd : (resetEngine s).spd = 0#64 := rfl
@[simp] theorem resetEngine_vmax : (resetEngine s).vmax = 0#32 := rfl
@[simp] theorem resetEngine_acc : (resetEngine s).acc = 0#32 := rfl
@[simp] theorem resetEngine_dec : (resetEngine s).dec = 0#32 := rfl
@[simp] theorem resetEngine_ivl : (resetEngine s).ivl = BitVec.ofNat 64 (Config.iReset s.floorFx) := rfl
@[simp] theorem resetEngine_lst : (resetEngine s).lst = 0#32 := rfl
@[simp] theorem resetEngine_en : (resetEngine s).en = false := rfl
@[simp] theorem resetEngine_mov : (resetEngine s).mov = false := rfl
@[simp] theorem resetEngine_dir : (resetEngine s).dir = true := rfl
@[simp] theorem resetEngine_flt : (resetEngine s).flt = 0#4 := rfl
@[simp] theorem resetEngine_evt : (resetEngine s).evt = [] := rfl
@[simp] theorem resetEngine_rsp : (resetEngine s).rsp = none := rfl
@[simp] theorem resetEngine_waiting : (resetEngine s).waiting = false := rfl
@[simp] theorem resetEngine_ports : (resetEngine s).ports = s.ports := rfl
@[simp] theorem resetEngine_env : (resetEngine s).env = s.env := rfl
@[simp] theorem resetEngine_floorFx : (resetEngine s).floorFx = s.floorFx := rfl

end

end Sys2Proof.Machine
end

