-- ==== Sys2Proof/Laws/Ops.lean ====
section
/-! SUPPORT. For each shared operation, once, everything it can do; the inversion lemmas of `RUN` and of a step, which later
proofs cite instead of unfolding. -/

namespace Sys2Proof.Machine

/-- A relative move starts with a target that fits, or is refused with `RANGE`. -/
theorem startMoveTo_cases (t : Int) (s : State) :
    ((-2147483648 ≤ t ∧ t ≤ 2147483647) ∧ startMoveTo t s = startMove (u32 t) s)
    ∨ (¬ (-2147483648 ≤ t ∧ t ≤ 2147483647) ∧ startMoveTo t s = raiseFault .range s) := by
  unfold startMoveTo
  by_cases h : fits32 t = true
  · exact .inl ⟨fits32_eq_true.1 h, if_pos h⟩
  · exact .inr ⟨fun h' => h (fits32_eq_true.2 h'), if_neg h⟩

/-- A rotation starts a move by its step count where the count and the target fit, or is refused with `RANGE`. -/
theorem rotateBySteps_cases (n : Int) (s : State) :
    (((-2147483648 ≤ n ∧ n ≤ 2147483647) ∧ (-2147483648 ≤ s32 s.pos + n ∧ s32 s.pos + n ≤ 2147483647))
      ∧ rotateBySteps n s = startMove (u32 (s32 s.pos + n)) s)
    ∨ (¬ ((-2147483648 ≤ n ∧ n ≤ 2147483647) ∧ (-2147483648 ≤ s32 s.pos + n ∧ s32 s.pos + n ≤ 2147483647))
      ∧ rotateBySteps n s = raiseFault .range s) := by
  unfold rotateBySteps
  by_cases h : fits32 n = true
  · rw [if_pos h]
    rcases startMoveTo_cases (s32 s.pos + n) s with ⟨ht, e⟩ | ⟨ht, e⟩
    · exact .inl ⟨⟨fits32_eq_true.1 h, ht⟩, e⟩
    · exact .inr ⟨fun h' => ht h'.2, e⟩
  · exact .inr ⟨fun h' => h (fits32_eq_true.2 h'.1), if_neg h⟩

/-- One step, as one update of the state (R109). -/
theorem takeStep_eq (now : Word) (s : State) :
    takeStep now s =
      { s with
        pos := if 0 < distToGo s then s.pos + 1#32 else s.pos - 1#32
        dir := decide (0 < distToGo s)
        evt := s.evt ++ (if s.dir = decide (0 < distToGo s) then [.pulse] else [.setDir (decide (0 < distToGo s)), .pulse])
        lst := now
        waiting := s.ports.drvBusy } := by
  unfold takeStep turnTo
  by_cases h : 0 < distToGo s <;> cases hd : s.dir <;>
    simp [h, hd, emitPulse, emitSetDir, appendEvent, State.setPos, State.setDir, State.setLst]

/-- A step moves `POS` one unit toward `TGT`; it never overflows (R11, R109). -/
theorem takeStep_pos (now : Word) (s : State) (h : distToGo s ≠ 0) :
    s32 (takeStep now s).pos = s32 s.pos + (if 0 < distToGo s then 1 else -1) := by
  have ht := s32_le s.tgt
  have ht' := s32_ge s.tgt
  have hp := s32_le s.pos
  have hp' := s32_ge s.pos
  rw [takeStep_eq]
  unfold distToGo at *
  have up : s.pos + 1#32 = u32 (s32 s.pos + 1) := by
    rw [u32, BitVec.ofInt_add, ← u32, u32_s32]; rfl
  have down : s.pos - 1#32 = u32 (s32 s.pos - 1) := by
    rw [u32, Int.sub_eq_add_neg, BitVec.ofInt_add, ← u32, u32_s32, BitVec.sub_eq_add_neg]; rfl
  by_cases hd : 0 < s32 s.tgt - s32 s.pos
  · simp only [if_pos hd]; rw [up, s32_u32] <;> omega
  · simp only [if_neg hd]; rw [down, s32_u32] <;> omega

/-- The speed law writes `SPD` and `IVL` and nothing else (R107). -/
theorem speedLaw_eq (s : State) :
    speedLaw s = { s with spd := BitVec.ofNat 64 (nextSpeed s), ivl := intervalOf (nextSpeed s) } := rfl

@[simp] theorem speedLaw_spd_toNat (s : State) : (speedLaw s).spd.toNat = nextSpeed s := by
  rw [speedLaw_eq]; simp only [BitVec.toNat_ofNat]; exact Nat.mod_eq_of_lt (nextSpeed_lt s)

@[simp] theorem distToGo_speedLaw (s : State) : distToGo (speedLaw s) = distToGo s := rfl

/-- Is the step of an acting poll due (R108)? -/
theorem timeGate_speedLaw (s : State) :
    timeGate (speedLaw s) =
      if (intervalOf (nextSpeed s)).toNat ≤ elapsed s.ports.nowUs s.lst
      then takeStep s.ports.nowUs (speedLaw s) else speedLaw s := rfl

/-- Everything a poll can do (R100): return at step 1, arrive, fault, or run the speed law and wait or step. -/
theorem execRun_cases {s t : State} (h : exec .run s = .next t) :
    ((s.en = false ∨ s.mov = false) ∧ t = s)
    ∨ ((s.en = true ∧ s.mov = true ∧ distToGo s = 0) ∧ t = arrive s)
    ∨ ((s.en = true ∧ s.mov = true ∧ distToGo s ≠ 0 ∧ unconfigured s = true) ∧ t = raiseFault .unconfigured s)
    ∨ (PollActs s ∧ ¬ (intervalOf (nextSpeed s)).toNat ≤ elapsed s.ports.nowUs s.lst ∧ t = speedLaw s)
    ∨ (PollActs s ∧ (intervalOf (nextSpeed s)).toNat ≤ elapsed s.ports.nowUs s.lst
        ∧ t = takeStep s.ports.nowUs (speedLaw s)) := by
  simp only [exec, execRun, Host.Outcome.next.injEq] at h
  by_cases hg : s.en = false ∨ s.mov = false
  · rw [if_pos hg] at h; exact .inl ⟨hg, h.symm⟩
  rw [if_neg hg] at h
  have he : s.en = true := by simpa using (not_or.1 hg).1
  have hm : s.mov = true := by simpa using (not_or.1 hg).2
  by_cases hd : distToGo s = 0
  · rw [if_pos hd] at h; exact .inr (.inl ⟨⟨he, hm, hd⟩, h.symm⟩)
  rw [if_neg hd] at h
  by_cases hu : unconfigured s = true
  · rw [if_pos hu] at h; exact .inr (.inr (.inl ⟨⟨he, hm, hd, hu⟩, h.symm⟩))
  rw [if_neg hu, timeGate_speedLaw] at h
  have ha : PollActs s := ⟨he, hm, hd, by simpa using hu⟩
  by_cases hi : (intervalOf (nextSpeed s)).toNat ≤ elapsed s.ports.nowUs s.lst
  · rw [if_pos hi] at h; exact .inr (.inr (.inr (.inr ⟨ha, hi, h.symm⟩)))
  · rw [if_neg hi] at h; exact .inr (.inr (.inr (.inl ⟨ha, hi, h.symm⟩)))

/-- What an acting poll answers (R100 steps 3 and 4). -/
theorem execRun_of_acts {s : State} (h : PollActs s) :
    exec .run s = .next (if (intervalOf (nextSpeed s)).toNat ≤ elapsed s.ports.nowUs s.lst
      then takeStep s.ports.nowUs (speedLaw s) else speedLaw s) := by
  obtain ⟨he, hm, hd, hu⟩ := h
  simp [exec, execRun, he, hm, hd, hu, timeGate_speedLaw]

/-- When a command can be taken (R43). -/
theorem cmdReady_eq_true {s : State} :
    cmdReady s = true ↔ s.ports.rst = false ∧ (s.waiting = false ∨ s.ports.drvBusy = false) := by
  cases h₁ : s.waiting <;> cases h₂ : s.ports.drvBusy <;> cases h₃ : s.ports.rst <;> simp [cmdReady, h₁, h₂, h₃]

theorem fetch_eq_some {s : State} {w : CmdWord} :
    fetch s = some w ↔ s.ports.cmdValid = true ∧ cmdReady s = true ∧ s.ports.cmdWord = w := by
  unfold fetch
  cases s.ports.cmdValid <;> cases cmdReady s <;> simp

theorem fetch_eq_none {s : State} : fetch s = none ↔ s.ports.cmdValid = false ∨ cmdReady s = false := by
  unfold fetch
  cases s.ports.cmdValid <;> cases cmdReady s <;> simp

/-- Everything a step can do: execute the command on the port, record an illegal word, or let the environment move on. -/
theorem step_cases {s t : State} (h : step s = .next t) :
    ((s.ports.cmdValid = true ∧ cmdReady s = true) ∧
      ((∃ i, decode s.ports.cmdWord = .command i ∧ exec i (acceptCommand s) = .next t)
       ∨ (∃ op, decode s.ports.cmdWord = .illegal op ∧ t = takeIllegal (acceptCommand s))))
    ∨ ((s.ports.cmdValid = false ∨ cmdReady s = false) ∧ t = awaitInput s) := by
  unfold step at h
  cases hf : fetch s with
  | none =>
    rw [hf] at h
    exact .inr ⟨fetch_eq_none.1 hf, (Host.Outcome.next.inj h).symm⟩
  | some w =>
    rw [hf] at h
    obtain ⟨hv, hr, rfl⟩ := fetch_eq_some.1 hf
    refine .inl ⟨⟨hv, hr⟩, ?_⟩
    simp only [runWord] at h
    cases hd : decode s.ports.cmdWord with
    | command i => rw [hd] at h; exact .inl ⟨i, rfl, h⟩
    | illegal op => rw [hd] at h; exact .inr ⟨op, rfl, (Host.Outcome.next.inj h).symm⟩

/-- A run of a machine after one step that answers a next state. -/
theorem core_run_next (M : Host.Core) (n : Nat) (x y : M.State) (h : M.step x = .next y) :
    M.run (n + 1) x = M.run n y := by
  simp [Host.Core.run, h]

/-- Everything a change on the input ports does to the engine: it resets it, or it reaches the ports, and a driver that is no
longer busy ends the wait. -/
theorem applyStimulus_cases (x : Stimulus) (s : State) :
    (x = .reset true ∧ applyStimulus x s = resetEngine { s with ports := { s.ports with rst := true } })
    ∨ (∃ p : Ports, ∃ w : Bool, applyStimulus x s = { s with ports := p, waiting := w }
        ∧ (w = true → s.waiting = true ∧ (p.drvBusy = s.ports.drvBusy ∨ p.drvBusy = true))
        ∧ (p.rst = true → s.ports.rst = true)) := by
  cases x with
  | command w => exact .inr ⟨_, s.waiting, rfl, fun h => ⟨h, .inl rfl⟩, id⟩
  | withdraw => exact .inr ⟨_, s.waiting, rfl, fun h => ⟨h, .inl rfl⟩, id⟩
  | clock t => exact .inr ⟨_, s.waiting, rfl, fun h => ⟨h, .inl rfl⟩, id⟩
  | stepsPerRev v => exact .inr ⟨_, s.waiting, rfl, fun h => ⟨h, .inl rfl⟩, id⟩
  | gearRatio v => exact .inr ⟨_, s.waiting, rfl, fun h => ⟨h, .inl rfl⟩, id⟩
  | driverBusy b =>
    exact .inr ⟨_, s.waiting && b, rfl, fun h => by simpa using Bool.and_eq_true_iff.1 h |>.imp id .inr, id⟩
  | reset level =>
    cases level with
    | true => exact .inl ⟨rfl, rfl⟩
    | false => exact .inr ⟨_, s.waiting, rfl, fun h => ⟨h, .inl rfl⟩, fun h => by simp at h⟩

end Sys2Proof.Machine
end

