-- ==== Sys2Proof/Laws/PerInstr.lean ====
section
/-! SUPPORT. Families of facts stated once per command (LAWS.json). `EncodeSelectsRow`: the word `encode` writes selects a row of
the table of spec/30_encoding.md R63, and that row has the command's mnemonic and format, whatever the operand. -/

namespace Sys2Proof.Laws

/-- A word made of an opcode and an operand selects a row by its opcode alone (R63: "the operand never takes part"). -/
theorem mask_of_append (op : OpcodeField) (k : Word) : (op ++ k) &&& 0xFF00000000#40 = op ++ 0#32 := by
  have low : ∀ i < 32, (0xFF00000000#40).getLsbD i = false := by decide
  have high : ∀ i < 40, 32 ≤ i → (0xFF00000000#40).getLsbD i = true := by decide
  refine BitVec.eq_of_getLsbD_eq fun i hi => ?_
  rw [BitVec.getLsbD_and, BitVec.getLsbD_append, BitVec.getLsbD_append]
  by_cases h : i < 32
  · simp [h, low i h]
  · simp [h, high i hi (by omega)]

/-- The command's encoding selects its own row of the opcode table. -/
def EncodeSelectsRow.Statement (i : Instr) : Prop :=
  ∃ r ∈ opcodeTable, r.selects (encode i) = true ∧ r.mnemonic = mnemonicOf i ∧ r.format = (mnemonicOf i).format

/-- From the row of the table to the statement: the row's match is its opcode over zeros. -/
theorem encodeSelectsRow_of_row (i : Instr) (r : TableRow) (hr : r ∈ opcodeTable) (hmask : r.mask = 0xFF00000000#40)
    (hpat : r.pattern = opcodeOf r.mnemonic ++ 0#32) (hf : r.format = r.mnemonic.format)
    (hm : r.mnemonic = mnemonicOf i) : EncodeSelectsRow.Statement i :=
  ⟨r, hr, by rw [TableRow.selects, hmask, encode, wordOf, mask_of_append, hpat, hm, beq_self_eq_true], hm, hm ▸ hf⟩

theorem EncodeSelectsRow.setMaxSpeed (v : Word) : EncodeSelectsRow.Statement (.setMaxSpeed v) :=
  encodeSelectsRow_of_row _ ⟨.setMaxSpeed, .U, 0x1000000000#40, 0xFF00000000#40⟩ (by decide) rfl (by decide) rfl rfl
theorem EncodeSelectsRow.setAccel (a : Word) : EncodeSelectsRow.Statement (.setAccel a) :=
  encodeSelectsRow_of_row _ ⟨.setAccel, .U, 0x1100000000#40, 0xFF00000000#40⟩ (by decide) rfl (by decide) rfl rfl
theorem EncodeSelectsRow.setDecel (d : Word) : EncodeSelectsRow.Statement (.setDecel d) :=
  encodeSelectsRow_of_row _ ⟨.setDecel, .U, 0x1200000000#40, 0xFF00000000#40⟩ (by decide) rfl (by decide) rfl rfl
theorem EncodeSelectsRow.enable : EncodeSelectsRow.Statement .enable :=
  encodeSelectsRow_of_row _ ⟨.enable, .N, 0x1800000000#40, 0xFF00000000#40⟩ (by decide) rfl (by decide) rfl rfl
theorem EncodeSelectsRow.disable : EncodeSelectsRow.Statement .disable :=
  encodeSelectsRow_of_row _ ⟨.disable, .N, 0x1900000000#40, 0xFF00000000#40⟩ (by decide) rfl (by decide) rfl rfl
theorem EncodeSelectsRow.moveTo (p : Word) : EncodeSelectsRow.Statement (.moveTo p) :=
  encodeSelectsRow_of_row _ ⟨.moveTo, .I, 0x2000000000#40, 0xFF00000000#40⟩ (by decide) rfl (by decide) rfl rfl
theorem EncodeSelectsRow.moveRel (d : Word) : EncodeSelectsRow.Statement (.moveRel d) :=
  encodeSelectsRow_of_row _ ⟨.moveRel, .I, 0x2100000000#40, 0xFF00000000#40⟩ (by decide) rfl (by decide) rfl rfl
theorem EncodeSelectsRow.rotateDeg (d : Word) : EncodeSelectsRow.Statement (.rotateDeg d) :=
  encodeSelectsRow_of_row _ ⟨.rotateDeg, .S, 0x2200000000#40, 0xFF00000000#40⟩ (by decide) rfl (by decide) rfl rfl
theorem EncodeSelectsRow.rotateRev (r : Word) : EncodeSelectsRow.Statement (.rotateRev r) :=
  encodeSelectsRow_of_row _ ⟨.rotateRev, .S, 0x2300000000#40, 0xFF00000000#40⟩ (by decide) rfl (by decide) rfl rfl
theorem EncodeSelectsRow.stop : EncodeSelectsRow.Statement .stop :=
  encodeSelectsRow_of_row _ ⟨.stop, .N, 0x2800000000#40, 0xFF00000000#40⟩ (by decide) rfl (by decide) rfl rfl
theorem EncodeSelectsRow.estop : EncodeSelectsRow.Statement .estop :=
  encodeSelectsRow_of_row _ ⟨.estop, .N, 0x2900000000#40, 0xFF00000000#40⟩ (by decide) rfl (by decide) rfl rfl
theorem EncodeSelectsRow.run : EncodeSelectsRow.Statement .run :=
  encodeSelectsRow_of_row _ ⟨.run, .N, 0x3000000000#40, 0xFF00000000#40⟩ (by decide) rfl (by decide) rfl rfl
theorem EncodeSelectsRow.isRunning : EncodeSelectsRow.Statement .isRunning :=
  encodeSelectsRow_of_row _ ⟨.isRunning, .Q, 0x4000000000#40, 0xFF00000000#40⟩ (by decide) rfl (by decide) rfl rfl
theorem EncodeSelectsRow.getDist : EncodeSelectsRow.Statement .getDist :=
  encodeSelectsRow_of_row _ ⟨.getDist, .Q, 0x4100000000#40, 0xFF00000000#40⟩ (by decide) rfl (by decide) rfl rfl
theorem EncodeSelectsRow.getPos : EncodeSelectsRow.Statement .getPos :=
  encodeSelectsRow_of_row _ ⟨.getPos, .Q, 0x4200000000#40, 0xFF00000000#40⟩ (by decide) rfl (by decide) rfl rfl
theorem EncodeSelectsRow.getSpeed : EncodeSelectsRow.Statement .getSpeed :=
  encodeSelectsRow_of_row _ ⟨.getSpeed, .Q, 0x4300000000#40, 0xFF00000000#40⟩ (by decide) rfl (by decide) rfl rfl
theorem EncodeSelectsRow.getStatus : EncodeSelectsRow.Statement .getStatus :=
  encodeSelectsRow_of_row _ ⟨.getStatus, .Q, 0x4400000000#40, 0xFF00000000#40⟩ (by decide) rfl (by decide) rfl rfl
theorem EncodeSelectsRow.setHome : EncodeSelectsRow.Statement .setHome :=
  encodeSelectsRow_of_row _ ⟨.setHome, .N, 0x5000000000#40, 0xFF00000000#40⟩ (by decide) rfl (by decide) rfl rfl
theorem EncodeSelectsRow.goHome : EncodeSelectsRow.Statement .goHome :=
  encodeSelectsRow_of_row _ ⟨.goHome, .N, 0x5100000000#40, 0xFF00000000#40⟩ (by decide) rfl (by decide) rfl rfl

end Sys2Proof.Laws
end

