-- ==== Sys2Proof/Tests/Slice0.lean ====
section
/-! SUPPORT. The author's tests. `test_…`: expected results are the vectors of spec/95_test_vectors.md (named in the comment) or
hand calculation from the cited rule. `witness_<Name>`: concrete states and operands that meet the hypotheses of the
obligation `<Name>`, clause by clause. -/

namespace Sys2Proof.Tests

open Sys2Proof Sys2Proof.Machine

/-! ## Helpers -/

/-- The next state of an outcome. -/
def nextOf (o : Host.Outcome State Fault Refusal) : Option State :=
  match o with
  | .next t => some t
  | .fault _ => none
  | .refused _ => none

/-- After reset and the prologue PR0 of 95_test_vectors.md section 0. -/
def configured : State :=
  { State.reset with vmax := 0x03E80000#32, acc := 0x01F40000#32, dec := 0x01F40000#32, en := true }

/-- The pre-state of the poll vectors: configuration C0, a move to `p` pending from rest at 0. -/
def moveTo (p : Word) : State := { configured with tgt := p, mov := true }

/-- A poll of the pre-state with the clock showing `t`. -/
def poll (t : Word) (s : State) : Option State := nextOf (exec .run (atClock t s))

/-- The geometry inputs of the rotate vectors: 200 steps per revolution, gear 1.0. -/
def geared (s : State) : State := { s with ports := { s.ports with spr := 200#32, gear := 0x00010000#32 } }

/-- A state with its next change of the environment. -/
def expecting (x : Stimulus) (s : State) : State := { s with env := [x] }

/-- A stepping `RUN` that its driver holds back. -/
def stalled : State := { configured with waiting := true, ports := { Ports.initial with drvBusy := true } }

/-! ## Words written out from 30_encoding.md sections 1 and 3 (opcode in bits 39:32, operand in 31:0) -/

-- V-ENC-1 to V-ENC-3: format U.
theorem test_decode_setters :
    decode 0x1003E80000#40 = .command (.setMaxSpeed 65536000#32)
    ∧ decode 0x1100008000#40 = .command (.setAccel 32768#32)
    ∧ decode 0x12FFFFFFFF#40 = .command (.setDecel 4294967295#32) := by decide
-- V-ENC-4 to V-ENC-6.
theorem test_decode_power :
    decode 0x1800000000#40 = .command .enable ∧ decode 0x18DEADBEEF#40 = .command .enable
    ∧ decode 0x1900000000#40 = .command .disable := by decide
-- V-ENC-7 to V-ENC-14: formats I and S.
theorem test_decode_moves :
    decode 0x20FFFFFFFE#40 = .command (.moveTo (BitVec.ofInt 32 (-2)))
    ∧ decode 0x2080000000#40 = .command (.moveTo (BitVec.ofInt 32 (-2147483648)))
    ∧ decode 0x2100000190#40 = .command (.moveRel 400#32)
    ∧ decode 0x22005A0000#40 = .command (.rotateDeg 5898240#32)
    ∧ decode 0x22FFA60000#40 = .command (.rotateDeg (BitVec.ofInt 32 (-5898240)))
    ∧ decode 0x23FFFFFE15#40 = .command (.rotateRev (BitVec.ofInt 32 (-491))) := by decide
-- V-ENC-15 to V-ENC-18.
theorem test_decode_stop_run :
    decode 0x2800000000#40 = .command .stop ∧ decode 0x2900000000#40 = .command .estop
    ∧ decode 0x3000000000#40 = .command .run ∧ decode 0x30FFFFFFFF#40 = .command .run := by decide
-- V-ENC-19 to V-ENC-24.
theorem test_decode_queries :
    decode 0x4000000000#40 = .command .isRunning ∧ decode 0x4100000000#40 = .command .getDist
    ∧ decode 0x4200000000#40 = .command .getPos ∧ decode 0x4300000000#40 = .command .getSpeed
    ∧ decode 0x4400000001#40 = .command .getStatus := by decide
-- V-ENC-25, V-ENC-26.
theorem test_decode_home :
    decode 0x5000000000#40 = .command .setHome ∧ decode 0x5100000000#40 = .command .goHome := by decide
-- V-ENC-27 to V-ENC-36.
theorem test_decode_illegal :
    decode 0x0000000000#40 = .illegal 0x00#8 ∧ decode 0xFFFFFFFFFF#40 = .illegal 0xFF#8
    ∧ decode 0x1300000000#40 = .illegal 0x13#8 ∧ decode 0x1A00000000#40 = .illegal 0x1A#8
    ∧ decode 0x2400000000#40 = .illegal 0x24#8 ∧ decode 0x2A00000000#40 = .illegal 0x2A#8
    ∧ decode 0x3100000000#40 = .illegal 0x31#8 ∧ decode 0x4500000000#40 = .illegal 0x45#8
    ∧ decode 0x5200000000#40 = .illegal 0x52#8 ∧ decode 0x0F03E80000#40 = .illegal 0x0F#8 := by decide
-- V-ENC-37: 19 of the 256 opcode values are assigned.
theorem test_assigned_opcodes :
    ((List.range 256).filter fun n => match decodeFields (BitVec.ofNat 8 n) 0#32 with | .command _ => true | .illegal _ => false)
      = [0x10, 0x11, 0x12, 0x18, 0x19, 0x20, 0x21, 0x22, 0x23, 0x28, 0x29, 0x30, 0x40, 0x41, 0x42, 0x43, 0x44, 0x50, 0x51] := by
  decide
-- V-ENC-1, V-ENC-7, V-ENC-17, V-ENC-23 in the other direction.
theorem test_encode :
    encode (.setMaxSpeed 65536000#32) = 0x1003E80000#40 ∧ encode (.moveTo (BitVec.ofInt 32 (-2))) = 0x20FFFFFFFE#40
    ∧ encode .run = 0x3000000000#40 ∧ encode .getStatus = 0x4400000000#40 := by decide
-- R60: the table's word is the 40-bit number itself; an illegal word names no instruction.
theorem test_decodeTableWord :
    decodeTableWord 40 0x2100000190 = some (.moveRel 400#32) ∧ decodeTableWord 40 0x1300000000 = none
    ∧ decodeTableWord 40 0x5100000000 = some .goHome := by decide

/-! ## Lines: the assembler, and an ill-formed line for each check of WellFormed (30_encoding.md section 5) -/

-- R67's own examples: fx(1000.0), fx(-90.0), fx(0.5), fx(1.0).
theorem test_assemble :
    assemble ⟨.setMaxSpeed, .fx 10000 1⟩ = some 0x1003E80000#40 ∧ assemble ⟨.rotateDeg, .fx (-900) 1⟩ = some 0x22FFA60000#40
    ∧ assemble ⟨.rotateRev, .fx 5 1⟩ = some 0x2300008000#40 ∧ assemble ⟨.setDecel, .fx 1 0⟩ = some 0x1200010000#40
    ∧ assemble ⟨.moveTo, .integer (-3)⟩ = some 0x20FFFFFFFD#40
    ∧ assemble ⟨.setMaxSpeed, .pattern 0x03E80000⟩ = some 0x1003E80000#40
    ∧ assemble ⟨.run, .absent⟩ = some 0x3000000000#40 := by decide
theorem test_wf_operand_missing : Line.wellFormed ⟨.moveTo, .absent⟩ = false := by decide
theorem test_wf_operand_not_taken :
    Line.wellFormed ⟨.stop, .integer 0⟩ = false ∧ Line.wellFormed ⟨.getPos, .pattern 0⟩ = false
    ∧ Line.wellFormed ⟨.run, .fx 0 0⟩ = false := by decide
-- The model's choice (log 16).
theorem test_wf_integer_range :
    Line.wellFormed ⟨.setAccel, .integer (-1)⟩ = false ∧ Line.wellFormed ⟨.setAccel, .integer 4294967296⟩ = false
    ∧ Line.wellFormed ⟨.moveRel, .integer 2147483648⟩ = false ∧ Line.wellFormed ⟨.moveRel, .integer (-2147483649)⟩ = false
    ∧ Line.wellFormed ⟨.rotateRev, .integer 2147483648⟩ = false := by decide
theorem test_wf_pattern_range : Line.wellFormed ⟨.moveTo, .pattern 4294967296⟩ = false := by decide
theorem test_wf_fx_not_exact : Line.wellFormed ⟨.setDecel, .fx 1 1⟩ = false := by decide
theorem test_wf_fx_range :
    Line.wellFormed ⟨.setMaxSpeed, .fx 65536 0⟩ = false ∧ Line.wellFormed ⟨.rotateDeg, .fx 32768 0⟩ = false
    ∧ Line.wellFormed ⟨.setMaxSpeed, .fx (-1) 0⟩ = false := by decide
-- R68: the POLL macro is a sequence of RUN lines.
theorem test_pollFrom :
    pollFrom 4294967295 2 2 = [.clock 4294967295#32, .command 0x3000000000#40, .clock 1#32, .command 0x3000000000#40] := by
  decide

/-! ## One step per instruction -/

-- V-CFG-1, V-CFG-7.
theorem test_setMaxSpeed : exec (.setMaxSpeed 0x03E80000#32) State.reset = .next { State.reset with vmax := 0x03E80000#32 } := rfl
theorem test_setMaxSpeed_zero : exec (.setMaxSpeed 0#32) configured = .next { configured with flt := 0x2#4 } := rfl
-- V-CFG-2, V-CFG-8.
theorem test_setAccel : exec (.setAccel 0x01F40000#32) State.reset = .next { State.reset with acc := 0x01F40000#32 } := rfl
theorem test_setAccel_zero : exec (.setAccel 0#32) configured = .next { configured with flt := 0x2#4 } := rfl
-- V-CFG-3, V-CFG-9: sticky.
theorem test_setDecel : exec (.setDecel 0x01F40000#32) State.reset = .next { State.reset with dec := 0x01F40000#32 } := rfl
theorem test_setDecel_zero :
    exec (.setDecel 0#32) { configured with flt := 0x2#4 } = .next { configured with flt := 0x2#4 } := rfl
-- V-CFG-11, V-CFG-13.
theorem test_enable : exec .enable State.reset = .next { State.reset with en := true } := rfl
theorem test_disable : exec .disable (moveTo 100#32) = .next { moveTo 100#32 with en := false } := rfl
-- V-MOV-2, V-MOV-6.
theorem test_moveTo :
    exec (.moveTo (-2#32)) { State.reset with pos := 2#32, tgt := 2#32 }
      = .next { State.reset with pos := 2#32, tgt := -2#32, mov := true } := by
  simp only [exec, execMoveTo]; rfl
theorem test_moveTo_disabled : (nextOf (exec (.moveTo 50#32) State.reset)).map (fun t => (t.tgt, t.mov, t.en)) =
    some (50#32, true, false) := by decide
-- V-MOV-9, V-MOV-11 to V-MOV-14.
theorem test_moveRel :
    (nextOf (exec (.moveRel (-4#32)) { moveTo 100#32 with pos := 10#32 })).map (fun t => (t.tgt, t.mov)) = some (6#32, true)
    ∧ (nextOf (exec (.moveRel 0x80000001#32) { State.reset with pos := -1#32 })).map (fun t => (t.tgt, t.flt))
        = some (0x80000000#32, 0#4)
    ∧ (nextOf (exec (.moveRel 2147483646#32) { State.reset with pos := 1#32 })).map (fun t => (t.tgt, t.flt))
        = some (2147483647#32, 0#4) := by decide
theorem test_moveRel_range :
    (nextOf (exec (.moveRel 2147483647#32) { State.reset with pos := 5#32 })).map (fun t => (t.tgt, t.mov, t.flt))
      = some (0#32, false, 0x8#4)
    ∧ (nextOf (exec (.moveRel 0x80000000#32) { State.reset with pos := -5#32, tgt := -5#32 })).map (fun t => (t.tgt, t.mov, t.flt))
      = some (-5#32, false, 0x8#4) := by decide
-- V-ROT-7, V-ROT-10, V-ROT-12, V-ROT-18.
theorem test_rotateDeg :
    (nextOf (exec (.rotateDeg 0x005A0000#32) (geared State.reset))).map (fun t => (t.tgt, t.mov)) = some (50#32, true)
    ∧ (nextOf (exec (.rotateDeg 0xFFFF0000#32) (geared State.reset))).map (fun t => (t.tgt, t.mov)) = some (0#32, true)
    ∧ (nextOf (exec (.rotateDeg 0xFFFE0000#32) (geared State.reset))).map (fun t => (t.tgt, t.mov)) = some (-1#32, true)
    ∧ (nextOf (exec (.rotateDeg 0x7FFFFFFF#32) (geared State.reset))).map (fun t => (t.tgt, t.mov)) = some (18204#32, true) := by
  decide
-- V-ROT-1, V-ROT-4; V-ROT-25, V-ROT-26.
theorem test_rotateRev :
    (nextOf (exec (.rotateRev 0x00010000#32) (geared State.reset))).map (fun t => (t.tgt, t.mov)) = some (200#32, true)
    ∧ (nextOf (exec (.rotateRev 0xFFFFFE15#32) (geared State.reset))).map (fun t => (t.tgt, t.mov)) = some (-1#32, true) := by
  decide
theorem test_rotateRev_range :
    (nextOf (exec (.rotateRev 0x00010000#32) (geared { State.reset with pos := 2147483447#32 }))).map (fun t => (t.tgt, t.flt))
      = some (2147483647#32, 0#4)
    ∧ (nextOf (exec (.rotateRev 0x00010000#32) (geared { State.reset with pos := 2147483500#32 }))).map (fun t => (t.tgt, t.flt))
      = some (0#32, 0x8#4) := by decide
-- V-STP-1, V-STP-6.
theorem test_stop :
    exec .stop { moveTo 100#32 with pos := 10#32, spd := 16622583808000#64, ivl := 3942#64, lst := 61000#32 }
      = .next { configured with pos := 10#32, tgt := 10#32, ivl := 3942#64, lst := 61000#32 } := rfl
theorem test_estop :
    exec .estop { moveTo 6#32 with pos := 10#32 } = .next { configured with pos := 10#32, tgt := 10#32, en := false } := rfl
-- V-RUN-5, V-RUN-10, V-RUN-13, V-RUN-14, V-RUN-21: SPD, IVL, POS after the poll.
theorem test_run_speed_law :
    (poll 0#32 (moveTo 400#32)).map (fun t => (t.spd, t.ivl, t.pos)) = some (655360000000#64, 100000#64, 0#32)
    ∧ (poll 0#32 { moveTo 10#32 with spd := 6553600000000#64, ivl := 10000#64 }).map (fun t => (t.spd, t.ivl, t.pos))
        = some (6225920000000#64, 10526#64, 0#32)
    ∧ (poll 0#32 { moveTo 1#32 with spd := 3407872000000#64, ivl := 19230#64 }).map (fun t => (t.spd, t.ivl, t.pos))
        = some (3276800000000#64, 20000#64, 0#32)
    ∧ (poll 0#32 { moveTo 1#32 with spd := 3276800000000#64, ivl := 1000000#64, dec := 0x04E20000#32 }).map
          (fun t => (t.spd, t.ivl, t.pos)) = some (3276800000000#64, 20000#64, 0#32)
    ∧ (poll 0#32 { moveTo 5#32 with ivl := 15#64, lst := 1#32, acc := 1#32 }).map (fun t => (t.spd, t.ivl, t.pos))
        = some (15#64, 4369066666666666#64, 0#32) := by decide
-- V-RUN-6, V-RUN-7, V-RUN-15, V-RUN-17: POS, LST, DIR and the events.
theorem test_run_step :
    (poll 100000#32 (moveTo 400#32)).any (fun t => t.pos == 1#32 && t.lst == 100000#32 && t.dir && t.evt == [.pulse]) = true
    ∧ (poll 99999#32 (moveTo 400#32)).any (fun t => t.pos == 0#32 && t.lst == 0#32 && t.evt == []) = true
    ∧ (poll 744#32 { moveTo 400#32 with lst := 4294967040#32, acc := 0xFFFF0000#32 }).any
        (fun t => t.pos == 1#32 && t.lst == 744#32 && t.evt == [.pulse]) = true
    ∧ (poll 7000#32 { moveTo (-3#32) with spd := 13107200000000#64, ivl := 5000#64, lst := 1000#32 }).any
        (fun t => t.pos == -1#32 && t.lst == 7000#32 && !t.dir && t.evt == [.setDir false, .pulse]) = true := by decide
-- V-QRY-3, V-QRY-4.
theorem test_isRunning :
    (nextOf (exec .isRunning { State.reset with mov := true, pos := 10#32 })).map (·.rsp) = some (some 1#64)
    ∧ (nextOf (exec .isRunning { State.reset with mov := true, pos := 7#32, tgt := 7#32 })).map (·.rsp) = some (some 0#64) := by
  decide
-- V-QRY-7, V-QRY-8.
theorem test_getDist :
    (nextOf (exec .getDist { State.reset with pos := 1#32, tgt := -1#32 })).map (·.rsp) = some (some 0xFFFFFFFFFFFFFFFE#64)
    ∧ (nextOf (exec .getDist { State.reset with pos := 0x7FFFFFFF#32, tgt := 0x80000000#32 })).map (·.rsp)
        = some (some 0xFFFFFFFF00000001#64) := by decide
-- V-QRY-12.
theorem test_getPos :
    (nextOf (exec .getPos { State.reset with pos := 0x80000000#32 })).map (·.rsp) = some (some 0xFFFFFFFF80000000#64) := by
  decide
-- V-QRY-14.
theorem test_getSpeed :
    (nextOf (exec .getSpeed { State.reset with spd := 655360000000#64 })).map (·.rsp) = some (some 0x0000009896800000#64) := by
  decide
-- V-QRY-16, V-QRY-18 to V-QRY-21, V-QRY-24.
theorem test_getStatus :
    (nextOf (exec .getStatus State.reset)).map (·.rsp) = some (some 0x4#64)
    ∧ (nextOf (exec .getStatus { moveTo 400#32 with spd := 655360000000#64 })).map (·.rsp) = some (some 0x17#64)
    ∧ (nextOf (exec .getStatus { moveTo 100000#32 with spd := 65536000000000#64 })).map (·.rsp) = some (some 0x27#64)
    ∧ (nextOf (exec .getStatus { moveTo (-2#32) with spd := 3276800000000#64, dir := false })).map (·.rsp) = some (some 0x33#64)
    ∧ (nextOf (exec .getStatus { moveTo 5#32 with acc := 0#32, flt := 0x7#4 })).map (·.rsp) = some (some 0x717#64) := by
  decide
-- V-HOM-4, V-HOM-6.
theorem test_setHome : exec .setHome { moveTo 100#32 with pos := 40#32 } = .next (moveTo 100#32) := rfl
theorem test_goHome :
    exec .goHome { State.reset with pos := -9#32, tgt := 5#32 } = .next { State.reset with pos := -9#32, mov := true } := rfl

/-! ## Steps: transfer, faults, the driver's stall, reset -/

-- V-FLT-1, V-FLT-2: a step on an illegal word; and a step on a word of the table, from reset.
theorem test_step_illegal :
    (nextOf (step (State.reset.withFetchWord 40 0))).map (fun t => (t.flt, t.ports.cmdValid)) = some (0x1#4, false)
    ∧ (nextOf (step ({ configured with flt := 0x2#4 }.withFetchWord 40 0x7F12345678))).map (·.flt) = some 0x3#4 := by decide
theorem test_step_legal :
    (nextOf (step (State.reset.withFetchWord 40 0x1003E80000))).map (fun t => (t.vmax, t.flt)) = some (0x03E80000#32, 0#4) := by
  decide
-- R46: the driver is busy when the pulse is issued, so the engine waits; the registers are already written.
theorem test_driver_holds_run :
    (nextOf (exec .run { moveTo 400#32 with ports := { Ports.initial with nowUs := 100000#32, drvBusy := true } })).map
      (fun t => (cmdReady t, t.pos)) = some (false, 1#32)
    ∧ cmdReady stalled = false ∧ (nextOf (step (expecting (.driverBusy false) stalled))).map cmdReady = some true := by
  decide
-- R46: the strobes of that step; R48: the level outputs at reset.
theorem test_outputs :
    (poll 7000#32 { moveTo (-3#32) with ivl := 5000#64, spd := 13107200000000#64, lst := 1000#32 }).map
      (fun t => (dirSetO (moveTo (-3#32)) t, stepReqO (moveTo (-3#32)) t)) = some (true, true)
    ∧ (enableO State.reset, dirO State.reset, faultO State.reset) = (false, true, false) := by decide
-- V-RST-5, V-RST-6.
theorem test_reset :
    (nextOf (step (expecting (.reset true) { moveTo 100#32 with pos := 10#32, spd := 16622583808000#64, ivl := 3942#64, flt := 0xF#4 }))).map
      (fun t => (t.pos, t.vmax, t.ivl, t.flt)) = some (0#32, 0#32, 20000#64, 0#4)
    ∧ (State.resetWith 0x00640000#32).ivl = 10000#64 := by decide

/-! ## Witnesses: states and operands that meet the hypotheses of the obligations -/

/-- An engine with a word on its command port, ready to take it. -/
def offered (w : CmdWord) (s : State) : State := presentWord w s

/-- A move that brakes: one step to go at 60 step/s (V-RUN-12). -/
def braking : State := { moveTo 1#32 with spd := 3932160000000#64, ivl := 16666#64 }

theorem witness_DecodeAndEncodeAgree :
    (Mnemonic.run.format = .N ∧ Mnemonic.getPos.format = .Q ∧ Mnemonic.moveTo.format ≠ .N ∧ Mnemonic.moveTo.format ≠ .Q)
    ∧ opcodeOf .setMaxSpeed = (0x1000000000#40).extractLsb' 32 8 ∧ opcodeOf .goHome = (0x51FFFFFFFF#40).extractLsb' 32 8
    ∧ (∀ m : Mnemonic, opcodeOf m ≠ (0x0FFFFFFFFF#40).extractLsb' 32 8)
    ∧ (∀ m : Mnemonic, opcodeOf m ≠ (0x5200000000#40).extractLsb' 32 8) :=
  ⟨by decide, by decide, by decide, fun m => by cases m <;> decide, fun m => by cases m <;> decide⟩

theorem witness_DecodeFollowsMatchAndMask :
    (⟨.setMaxSpeed, .U, 0x1000000000#40, 0xFF00000000#40⟩ : TableRow) ∈ opcodeTable
    ∧ (0x10FFFFFFFF#40 &&& 0xFF00000000#40 = 0x1000000000#40)
    ∧ (∀ r ∈ opcodeTable, 0x0FFFFFFFFF#40 &&& r.mask ≠ r.pattern) := by decide

theorem witness_OperandBitsIgnoredOrSignificant :
    (Mnemonic.enable.format = .N ∧ Mnemonic.getStatus.format = .Q)
    ∧ (Mnemonic.setAccel.format ≠ .N ∧ Mnemonic.setAccel.format ≠ .Q ∧ (0#32 : Word) ≠ 0xFFFFFFFF#32) := by decide

/-- Both ends of format U (0 and 65535.9999847412109375) and of formats S and I (-32768.0 and 32767.9999847412109375). -/
theorem witness_FxOperandsAreExact :
    (assemble ⟨.setAccel, .fx 0 0⟩ = some 0x1100000000#40
      ∧ assemble ⟨.setAccel, .fx 655359999847412109375 16⟩ = some 0x11FFFFFFFF#40 ∧ Mnemonic.setAccel.format = .U
      ∧ assemble ⟨.rotateDeg, .fx (-32768) 0⟩ = some 0x2280000000#40 ∧ Mnemonic.rotateDeg.format ≠ .U
      ∧ assemble ⟨.moveTo, .fx (-32768) 0⟩ = some 0x2080000000#40)
    ∧ ((0 : Int) * 10 ^ 0 = 0 * 65536 ∧ (4294967295 : Int) * 10 ^ 16 = 655359999847412109375 * 65536)
    ∧ ((-2147483648 : Int) * 10 ^ 0 = -32768 * 65536 ∧ (2147483647 : Int) * 10 ^ 16 = 327679999847412109375 * 65536)
    ∧ Mnemonic.moveTo.format = .I ∧ Mnemonic.rotateDeg.format = .S := by
  decide

/-- The engine takes a word when no `RUN` waits, and when one waits on a driver that is no longer busy. -/
theorem witness_StepRunsTheDecodedCommand :
    let s := offered 0x2100000005#40 State.reset
    let s' := { s with waiting := true }
    (s.ports.cmdValid = true ∧ s.ports.rst = false ∧ s.waiting = false ∧ decode s.ports.cmdWord = .command (.moveRel 5#32))
    ∧ (s'.ports.cmdValid = true ∧ s'.ports.rst = false ∧ s'.ports.drvBusy = false) := by decide

theorem witness_IllegalOpcodeSetsOnlyIllegalCmd :
    let s := offered 0x0F00000001#40 State.reset
    let s' := offered 0x5200000000#40 stalled
    (s.ports.cmdValid = true ∧ s.ports.rst = false ∧ s.waiting = false ∧ s.ports.cmdWord.extractLsb' 32 8 = 0x0F#8)
    ∧ (s'.ports.cmdValid = true ∧ s'.ports.rst = false ∧ s'.waiting = false ∧ s'.ports.cmdWord.extractLsb' 32 8 = 0x52#8)
    ∧ (0x30FFFFFFFF#40).extractLsb' 32 8 = 0x30#8 := by decide

theorem witness_IdleEngineChangesNothing :
    (State.reset.ports.rst = false ∧ State.reset.ports.cmdValid = false ∧ State.reset.env = [])
    ∧ (stalled.ports.rst = false ∧ stalled.waiting = true ∧ stalled.ports.drvBusy = true ∧ stalled.env = []) := by decide

/-- A query and a command that answers nothing, on an engine that still shows an older response. -/
theorem witness_OnlyQueriesRespond :
    let s := offered 0x4400000000#40 { State.reset with rsp := some 1#64 }
    let s' := offered 0x3000000000#40 { State.reset with rsp := some 1#64 }
    (s.ports.cmdValid = true ∧ s.ports.rst = false ∧ s.waiting = false ∧ decode s.ports.cmdWord = .command .getStatus
      ∧ ∃ t, step s = .next t)
    ∧ (s'.ports.cmdValid = true ∧ s'.ports.rst = false ∧ s'.waiting = false ∧ decode s'.ports.cmdWord = .command .run
      ∧ ∃ t, step s' = .next t) :=
  ⟨⟨rfl, rfl, rfl, by decide, _, rfl⟩, rfl, rfl, rfl, by decide, _, rfl⟩

theorem witness_BusyDriverOnlyDelays :
    (stalled.ports.rst = false ∧ stalled.waiting = true ∧ stalled.ports.drvBusy = true)
    ∧ stalled.env.head? ≠ some (.reset true) ∧ stalled.env.head? ≠ some (.driverBusy false)
    ∧ (expecting (.driverBusy false) stalled).env.head? = some (.driverBusy false) := by decide

theorem witness_InputChangesTouchNoRegister :
    (configured.ports.rst = false ∧ configured.ports.cmdValid = false)
    ∧ (expecting (.clock 7#32) configured).env = [.clock 7#32] ∧ (.clock 7#32 : Stimulus) ≠ .reset true
    ∧ (expecting (.reset false) configured).env = [.reset false] ∧ (.reset false : Stimulus) ≠ .reset true := by decide

theorem witness_RunAtLineIsOnePoll :
    let s := { moveTo 400#32 with env := runAt 100000#32 ++ [Stimulus.withdraw] }
    s.ports.rst = false ∧ s.ports.cmdValid = false ∧ s.waiting = false ∧ s.env = runAt 100000#32 ++ [Stimulus.withdraw] := by decide

theorem witness_ResetValuesAreTheTables :
    1 ≤ (1#32 : Word).toNat ∧ 1 ≤ (0xFFFFFFFF#32 : Word).toNat ∧ Reg.POS ≠ .IVL := by decide

/-- The four clauses: an idle and a stalled engine being reset, one held in reset, one released. -/
theorem witness_ResetRestoresEverything :
    let held : State := { State.reset with ports := { Ports.initial with rst := true } }
    ((expecting (.reset true) configured).ports.rst = false ∧ (expecting (.reset true) configured).ports.cmdValid = false
      ∧ (expecting (.reset true) configured).env = [.reset true])
    ∧ ((expecting (.reset true) stalled).waiting = true ∧ (expecting (.reset true) stalled).ports.drvBusy = true)
    ∧ (held.ports.rst = true ∧ held.env = []) ∧ (expecting (.reset false) held).env = [.reset false] := by decide

theorem witness_EachCommandSetsItsOwnFaultOnly :
    (∃ t, exec (.setDecel 0#32) configured = .next t) ∧ (∃ t, exec .getDist configured = .next t) := ⟨⟨_, rfl⟩, _, rfl⟩

theorem witness_ZeroOperandIsRefusedWithCfgValue :
    (.setAccel 0#32 : Instr) ∈ [.setMaxSpeed 0#32, .setAccel 0#32, .setDecel 0#32]
    ∧ (.setAccel 1#32 : Instr) ∉ [.setMaxSpeed 0#32, .setAccel 0#32, .setDecel 0#32]
    ∧ ∃ t, exec (.setAccel 1#32) configured = .next t := ⟨by decide, by decide, _, rfl⟩

theorem witness_ConfiguredLimitsStayConfigured :
    (∃ t, exec (.setMaxSpeed 0#32) configured = .next t)
    ∧ configured.vmax ≠ 0#32 ∧ configured.acc ≠ 0#32 ∧ configured.dec ≠ 0#32 := ⟨⟨_, rfl⟩, by decide, by decide, by decide⟩

/-- One step over and exactly at each end of the range: targets, and step counts of a rotation (V-ROT-20 to V-ROT-23). -/
theorem witness_RangeFaultExactlyWhenOutOfRange :
    ((0x7FFFFFFF#32 : Word).toInt + (1#32 : Word).toInt = 2147483648 ∧ (0x80000000#32 : Word).toInt + (-1#32 : Word).toInt = -2147483649)
    ∧ ((0x7FFFFFFF#32 : Word).toInt + (0#32 : Word).toInt = 2147483647 ∧ (0x80000000#32 : Word).toInt + (0#32 : Word).toInt = -2147483648)
    ∧ Int.tdiv ((0x80000000#32 : Word).toInt * 65536 * 65536) 4294967296 = -2147483648
    ∧ Int.tdiv ((0x80000000#32 : Word).toInt * 65537 * 65536) 4294967296 = -2147516416
    ∧ Int.tdiv ((0x7FFFFFFF#32 : Word).toInt * 4294967295 * 65536) 1546188226560 = 390937467380 := by decide

/-- A negative and a positive count of each conversion, an angle of just under one step for each, and the smallest angle that
has an opposite. -/
theorem witness_AngleConversionTruncatesTowardZero :
    (degreeSteps 0xFFA60000#32 200#32 0x00010000#32 = -50 ∧ revolutionSteps 0x00018000#32 200#32 0x00010000#32 = 300)
    ∧ (degreeSteps 0x005A0000#32 200#32 0x00010000#32 = 50 ∧ revolutionSteps 0xFFFFFEB8#32 200#32 0x00010000#32 = -1)
    ∧ ((0xFFFE3334#32 : Word).toInt * (200#32 : Word).toNat * (0x00010000#32 : Word).toNat).natAbs < 1546188226560
    ∧ ((327#32 : Word).toInt * (200#32 : Word).toNat * (0x00010000#32 : Word).toNat).natAbs < 4294967296
    ∧ (0x80000001#32 : Word) ≠ 0x80000000#32 := by
  decide

theorem witness_CompositionsHaveTheSameEffect :
    (∃ t, exec .stop (moveTo 9#32) = .next t)
    ∧ (0x7FFFFFFF#32 : Word).toInt = ({ configured with pos := 1#32 } : State).pos.toInt + (0x7FFFFFFE#32 : Word).toInt :=
  ⟨⟨_, rfl⟩, by decide⟩

theorem witness_MoveCommandsIgnoreEnable :
    (mnemonicOf (.rotateRev 1#32) ∈ [Mnemonic.moveTo, .moveRel, .rotateDeg, .rotateRev, .goHome]
      ∧ ∃ t, exec (.rotateRev 1#32) configured = .next t) ∧ State.reset.en = false := ⟨⟨by decide, _, rfl⟩, rfl⟩

/-- Each of the five ways to move by nothing, on an enabled and on a disabled engine. -/
theorem witness_ZeroDistanceMoveEndsInOnePoll :
    (.moveTo 0#32 : Instr) = .moveTo (geared configured).pos
    ∧ degreeSteps 0xFFFF0000#32 (geared configured).ports.spr (geared configured).ports.gear = 0
    ∧ revolutionSteps 327#32 (geared configured).ports.spr (geared configured).ports.gear = 0
    ∧ (geared configured).pos = 0#32 ∧ (geared configured).en = true ∧ (geared State.reset).en = false := by decide

theorem witness_GatedPollDoesNothing : State.reset.en = false ∧ configured.mov = false := by decide
theorem witness_ArrivalPollClearsMovAndSpeed :
    (moveTo 0#32).en = true ∧ (moveTo 0#32).mov = true ∧ (moveTo 0#32).tgt = (moveTo 0#32).pos := by decide
theorem witness_UnconfiguredPollFaults :
    ((moveTo 5#32).en = true ∧ (moveTo 5#32).mov = true ∧ (moveTo 5#32).tgt ≠ (moveTo 5#32).pos)
    ∧ ({ moveTo 5#32 with vmax := 0#32 } : State).vmax = 0#32 ∧ ({ moveTo 5#32 with acc := 0#32 } : State).acc = 0#32
    ∧ ({ moveTo 5#32 with dec := 0#32 } : State).dec = 0#32 := by decide

/-- The pre-state of V-RUN-5, from which the new speed is 655 360 000 000, and one that brakes. -/
theorem witness_ActingPollResult :
    ((moveTo 400#32).en = true ∧ (moveTo 400#32).mov = true ∧ (moveTo 400#32).tgt ≠ (moveTo 400#32).pos
      ∧ (moveTo 400#32).vmax ≠ 0#32 ∧ (moveTo 400#32).acc ≠ 0#32 ∧ (moveTo 400#32).dec ≠ 0#32)
    ∧ nextSpeed (moveTo 400#32) = 655360000000 ∧ nextSpeed braking = 3386048512000
    ∧ ¬ (65536000000000000 * (2 * 400 * (moveTo 400#32).dec.toNat) ≤ (moveTo 400#32).spd.toNat ^ 2)
    ∧ 65536000000000000 * (2 * 1 * braking.dec.toNat) ≤ braking.spd.toNat ^ 2 := by decide

theorem inv_moveTo : Inv (moveTo 400#32) := by constructor <;> decide
theorem inv_braking : Inv braking := by constructor <;> decide

theorem pollActs_moveTo : PollActs (moveTo 400#32) := by unfold PollActs; decide
theorem pollActs_braking : PollActs braking := by unfold PollActs; decide

theorem witness_ActingPollSpeedAndIntervalBounds :
    Inv braking ∧ PollActs braking ∧ ∃ t, exec .run braking = .next t := ⟨inv_braking, pollActs_braking, _, rfl⟩

/-- A poll on each branch, from a speed within the clamp. -/
theorem witness_SpeedBoundsOfTheTwoBranches :
    (PollActs (moveTo 400#32) ∧ (∃ t, exec .run (moveTo 400#32) = .next t) ∧ brake (moveTo 400#32) = false)
    ∧ (PollActs braking ∧ (∃ t, exec .run braking = .next t) ∧ brake braking = true)
    ∧ (braking.floorFx.toNat ≤ braking.vmax.toNat ∧ braking.spd.toNat ≤ 1000000 * braking.vmax.toNat) :=
  ⟨⟨pollActs_moveTo, ⟨_, rfl⟩, by decide⟩, ⟨pollActs_braking, ⟨_, rfl⟩, by decide⟩, by decide⟩

theorem witness_BrakingNeverSubtractsMoreThanHalf :
    Inv braking ∧ distToGo braking ≠ 0 ∧ braking.dec ≠ 0#32 ∧ brake braking = true :=
  ⟨inv_braking, by decide, by decide, by decide⟩

theorem witness_PollStepsExactlyWithItsPulse :
    distToGo (atClock 100000#32 (moveTo 400#32)) ≠ 0 ∧ ∃ t, exec .run (atClock 100000#32 (moveTo 400#32)) = .next t :=
  ⟨by decide, _, rfl⟩

theorem witness_ElapsedTimeIsExactAcrossOneWrap : (0 : Nat) < 4294967296 ∧ (4294967295 : Nat) < 4294967296 := by decide

/-- A poll of a disabled engine, and a command that is no poll. -/
theorem witness_ClockMattersOnlyToActingPolls :
    (((.run : Instr) = .run → ¬ PollActs State.reset) ∧ ∃ t, exec .run State.reset = .next t)
    ∧ (((.stop : Instr) = .run → ¬ PollActs configured) ∧ ∃ t, exec .stop configured = .next t) :=
  ⟨⟨fun _ h => absurd h.1 (by decide), _, rfl⟩, ⟨nofun, _, rfl⟩⟩

theorem witness_GeometryMattersOnlyToRotations :
    mnemonicOf (.moveRel 1#32) ≠ .rotateDeg ∧ mnemonicOf (.moveRel 1#32) ≠ .rotateRev
    ∧ ∃ t, exec (.moveRel 1#32) configured = .next t := ⟨by decide, by decide, _, rfl⟩

/-- Idle, and moving with the distance already 0 at a speed above 0. -/
theorem witness_NoPollMovesAnEngineThatIsNotRunning :
    moveInProgress { configured with tgt := 3#32 } = false
    ∧ moveInProgress { moveTo 7#32 with pos := 7#32, spd := 8060928000000#64 } = false ∧ Reg.POS ≠ .MOV ∧ Reg.POS ≠ .SPD := by
  decide

/-- Two steps backward at the floor speed, each poll 20 000 microseconds after the step before it. -/
theorem witness_DuePollsReachTheTargetExactly :
    let s := { moveTo (-2#32) with spd := 3276800000000#64 }
    PollActs s ∧ [20000#32, 40000#32].length = (distToGo s).natAbs
    ∧ (∀ (k : Nat) (now : Word), [20000#32, 40000#32][k]? = some now →
        (intervalOf (nextSpeed (atClock now (afterPolls ([20000#32, 40000#32].take k) s)))).toNat
          ≤ elapsed now (atClock now (afterPolls ([20000#32, 40000#32].take k) s)).lst) := by
  refine ⟨by unfold PollActs; decide, by decide, fun k now h => ?_⟩
  match k with
  | 0 => cases h; decide
  | 1 => cases h; decide
  | n + 2 => cases h

/-- Both ends of the range of maximum speeds that never step (V-RUN-23 is the upper one). -/
theorem witness_TinyMaximumSpeedNeverSteps :
    (Inv { moveTo 1#32 with vmax := 15#32, spd := 15000000#64, ivl := 4369066666#64 }
      ∧ PollActs { moveTo 1#32 with vmax := 15#32, spd := 15000000#64, ivl := 4369066666#64 }
      ∧ (15#32 : Word).toNat ≤ 15 ∧ (15000000#64 : DWord).toNat ≤ 1000000 * (15#32 : Word).toNat)
    ∧ (Inv { moveTo 1#32 with vmax := 1#32 } ∧ PollActs { moveTo 1#32 with vmax := 1#32 }
      ∧ (1#32 : Word).toNat ≤ 15 ∧ (0#64 : DWord).toNat ≤ 1000000 * (1#32 : Word).toNat) := by
  refine ⟨⟨by constructor <;> decide, by unfold PollActs; decide, by decide, by decide⟩,
    by constructor <;> decide, by unfold PollActs; decide, by decide, by decide⟩

/-- The smallest maximum speed and the smallest interval of the statement, and the pre-state of V-RUN-22. -/
theorem witness_LongIntervalsAreIsolated :
    (Inv { moveTo 5#32 with vmax := 16#32, ivl := 4294967296#64 }
      ∧ PollActs { moveTo 5#32 with vmax := 16#32, ivl := 4294967296#64 }
      ∧ 16 ≤ (16#32 : Word).toNat ∧ 4294967296 ≤ (4294967296#64 : DWord).toNat
      ∧ ∃ t, exec .run { moveTo 5#32 with vmax := 16#32, ivl := 4294967296#64 } = .next t)
    ∧ Inv { moveTo 5#32 with acc := 1#32, lst := 1#32, spd := 15#64, ivl := 4369066666666666#64 } := by
  refine ⟨⟨by constructor <;> decide, by unfold PollActs; decide, by decide, by decide, _, rfl⟩,
    by constructor <;> decide⟩

theorem witness_QueriesArePure :
    (mnemonicOf .getSpeed).format = .Q ∧ ∃ t, exec .getSpeed { configured with flt := 0xF#4 } = .next t := ⟨by decide, _, rfl⟩

/-- A command that sets a new bit of `FLT`. -/
theorem witness_FaultingCommandDoesNothingElse :
    ∃ t, exec (.setAccel 0#32) configured = .next t ∧ t.flt ≠ configured.flt := ⟨_, rfl, by decide⟩

/-- A step outside reset, and a command on a state that is given more fault bits. -/
theorem witness_OnlyResetClearsFaultBits :
    (∃ t, step (offered 0x2800000000#40 { configured with flt := 0xF#4 }) = .next t
      ∧ (offered 0x2800000000#40 { configured with flt := 0xF#4 }).ports.rst = false ∧ t.ports.rst = false)
    ∧ (∃ t, exec .getStatus configured = .next t) ∧ (.stop : Instr) ≠ .getStatus :=
  ⟨⟨_, rfl, rfl, rfl⟩, ⟨_, rfl⟩, nofun⟩

theorem witness_FrameOfEveryCommand :
    (∃ t, exec .estop (moveTo 5#32) = .next t) ∧ (mnemonicOf .estop).format ≠ .Q ∧ (.estop : Instr) ≠ .run :=
  ⟨⟨_, rfl⟩, by decide, nofun⟩

theorem witness_RegistersChangeOnlyByTheirWriters :
    ∃ t, exec .setHome { configured with pos := 5#32 } = .next t ∧ t.read .POS ≠ ({ configured with pos := 5#32 } : State).read .POS :=
  ⟨_, rfl, by decide⟩

theorem witness_EventTraceOnlyGrows :
    ∃ t, step (offered 0x3000000000#40 (atClock 100000#32 (moveTo 400#32))) = .next t
      ∧ (offered 0x3000000000#40 (atClock 100000#32 (moveTo 400#32))).ports.rst = false ∧ t.ports.rst = false
      ∧ t.evt = [.pulse] :=
  ⟨_, rfl, rfl, rfl, rfl⟩

/-- A step that transfers `SET_HOME`, one that transfers `ENABLE`, and two that transfer nothing: the old `SET_HOME` word still on
its port but no longer valid, and a valid one held back by the driver. -/
theorem witness_DisabledEngineHoldsItsPosition :
    let away : State := { State.reset with pos := 5#32 }
    let old : State := { away with ports := { away.ports with cmdWord := 0x5000000000#40 } }
    let held : State :=
      { old with waiting := true, ports := { old.ports with cmdValid := true, drvBusy := true } }
    (∃ t, step (offered 0x5000000000#40 away) = .next t ∧ (offered 0x5000000000#40 away).en = false
      ∧ (offered 0x5000000000#40 away).ports.rst = false ∧ t.ports.rst = false ∧ t.pos = 0#32)
    ∧ (∃ t, step (offered 0x1800000000#40 away) = .next t ∧ (offered 0x1800000000#40 away).en = false
      ∧ (offered 0x1800000000#40 away).ports.rst = false ∧ t.ports.rst = false ∧ t.en = true)
    ∧ (∃ t, step old = .next t ∧ old.en = false ∧ old.ports.rst = false ∧ t.ports.rst = false ∧ fetch old = none
      ∧ decode old.ports.cmdWord = .command .setHome ∧ t.pos = 5#32)
    ∧ (∃ t, step held = .next t ∧ held.en = false ∧ held.ports.rst = false ∧ t.ports.rst = false ∧ fetch held = none
      ∧ decode held.ports.cmdWord = .command .setHome ∧ t.pos = 5#32) :=
  ⟨⟨_, rfl, rfl, rfl, rfl, rfl⟩, ⟨_, rfl, rfl, rfl, rfl, rfl⟩, ⟨_, rfl, rfl, rfl, rfl, rfl, rfl, rfl⟩,
    _, rfl, rfl, rfl, rfl, rfl, rfl, rfl⟩

theorem witness_StepKeepsTheInvariants : Inv (moveTo 400#32) ∧ ∃ t, step (moveTo 400#32) = .next t := ⟨inv_moveTo, _, rfl⟩

end Sys2Proof.Tests
end

/-! The state right after reset (spec/10_state.md R30). -/

namespace Sys2Proof.Machine

/-- R4 `I_RESET` fits `IVL`: the dividend already does. -/
theorem iReset_lt (f : Word) : Config.iReset f < 2 ^ 64 :=
  lt_of_le_of_lt (Nat.div_le_self _ _) (by rw [bk_eq]; decide)

/-- The reset value of `IVL` is stored untruncated, so it is the quotient of R30. -/
theorem resetWith_ivl_toNat (f : Word) :
    (State.resetWith f).ivl.toNat = 65536000000000000 / (1000000 * f.toNat) := by
  calc (State.resetWith f).ivl.toNat
      = Config.iReset f := Nat.mod_eq_of_lt (iReset_lt f)
    _ = 65536000000000000 / (1000000 * f.toNat) := by
      rw [Config.iReset, bk_eq, sFloor_eq, Nat.mul_comm]

/-- R4, R30: the default floor speed of 50 step/s gives an interval of 20 ms. -/
theorem reset_ivl_toNat : State.reset.ivl.toNat = 20000 := by
  rw [State.reset, resetWith_ivl_toNat]; rfl

/-- R30: the floor speed reaches `IVL` only; of the other registers `DIR` alone starts at 1. -/
theorem resetWith_read (f : Word) {r : Reg} (hr : r ≠ .IVL) :
    (State.resetWith f).read r = if r = .DIR then 1 else 0 := by
  cases r with
  | IVL => exact absurd rfl hr
  | POS | TGT | SPD | VMAX | ACC | DEC | LST | EN | MOV | DIR | FLT => rfl

@[simp] theorem resetWith_evt (f : Word) : (State.resetWith f).evt = [] := rfl
@[simp] theorem resetWith_waiting (f : Word) : (State.resetWith f).waiting = false := rfl
@[simp] theorem enableO_resetWith (f : Word) : enableO (State.resetWith f) = false := rfl
@[simp] theorem dirO_resetWith (f : Word) : dirO (State.resetWith f) = true := rfl
@[simp] theorem resetWith_flt (f : Word) : (State.resetWith f).flt = 0#4 := rfl
@[simp] theorem faultO_resetWith (f : Word) : faultO (State.resetWith f) = false := by
  rw [faultO, resetWith_flt]; decide
@[simp] theorem rspValid_resetWith (f : Word) : rspValid (State.resetWith f) = false := rfl

/-- Settles O14: the table for every floor speed, then the default engine as an instance of it. -/
theorem resetValuesAreTheTables : Obligations.ResetValuesAreTheTables :=
  ⟨fun f _ => ⟨resetWith_ivl_toNat f, resetWith_evt f, fun _ => resetWith_read f⟩,
    reset_ivl_toNat, resetWith_evt _, fun _ => resetWith_read _,
    enableO_resetWith _, dirO_resetWith _, faultO_resetWith _, resetWith_waiting _, rspValid_resetWith _⟩

end Sys2Proof.Machine

/-! The level outputs (spec/20_memory.md R48). -/

namespace Sys2Proof.Machine

@[simp] theorem enableO_eq (s : State) : enableO s = s.en := rfl
@[simp] theorem dirO_eq (s : State) : dirO s = s.dir := rfl

/-- `fault_o` is low exactly when `FLT` is clear: R48's OR reads every bit the register has. -/
theorem faultO_eq_false_iff (s : State) : faultO s = false ↔ s.flt = 0#4 := by
  constructor
  · intro h
    simp only [faultO, Bool.or_eq_false_iff] at h
    obtain ⟨⟨⟨illegal, cfg⟩, unconfigured⟩, range⟩ := h
    refine BitVec.eq_of_getLsbD_eq fun i hi => ?_
    rw [BitVec.getLsbD_zero]
    match i, hi with
    | 0, _ => exact illegal
    | 1, _ => exact cfg
    | 2, _ => exact unconfigured
    | 3, _ => exact range
  · intro h
    rw [faultO, h]; decide

theorem faultO_iff (s : State) : faultO s = true ↔ s.flt ≠ 0#4 := by
  rw [Ne, ← faultO_eq_false_iff, Bool.not_eq_false]

/-- Settles O50: two outputs are their registers, the third by `faultO_iff`. -/
theorem levelOutputsFollowTheRegisters : Obligations.LevelOutputsFollowTheRegisters :=
  fun s => ⟨enableO_eq s, dirO_eq s, faultO_iff s⟩

end Sys2Proof.Machine

/-! Command words (spec/30_encoding.md): the two fields of a word, and the command that an opcode and an operand stand for. -/

namespace Sys2Proof

/-! ## The two fields of a word (R60) -/

@[simp] theorem opcodeField_append (op : OpcodeField) (k : Word) : opcodeField (op ++ k) = op :=
  BitVec.extractLsb'_append_eq_left

@[simp] theorem operandField_append (op : OpcodeField) (k : Word) : operandField (op ++ k) = k :=
  BitVec.extractLsb'_append_eq_right

/-- A word holds nothing but its opcode and its operand. -/
@[simp] theorem opcodeField_append_operandField (w : CmdWord) : opcodeField w ++ operandField w = w :=
  BitVec.extractLsb'_append_extractLsb'

/-! ## Commands by mnemonic and operand -/

/-- R63, R65: the command of a mnemonic and an operand, which formats N and Q drop. -/
def commandOf : Mnemonic → Word → Instr
  | .setMaxSpeed, k => .setMaxSpeed k
  | .setAccel, k    => .setAccel k
  | .setDecel, k    => .setDecel k
  | .enable, _      => .enable
  | .disable, _     => .disable
  | .moveTo, k      => .moveTo k
  | .moveRel, k     => .moveRel k
  | .rotateDeg, k   => .rotateDeg k
  | .rotateRev, k   => .rotateRev k
  | .stop, _        => .stop
  | .estop, _       => .estop
  | .run, _         => .run
  | .isRunning, _   => .isRunning
  | .getDist, _     => .getDist
  | .getPos, _      => .getPos
  | .getSpeed, _    => .getSpeed
  | .getStatus, _   => .getStatus
  | .setHome, _     => .setHome
  | .goHome, _      => .goHome

@[simp] theorem mnemonicOf_commandOf (m : Mnemonic) (k : Word) : mnemonicOf (commandOf m k) = m := by
  cases m <;> rfl

/-- A command is its mnemonic with its operand. -/
@[simp] theorem commandOf_mnemonicOf_operandOf (i : Instr) : commandOf (mnemonicOf i) (operandOf i) = i := by
  cases i <;> rfl

/-- R65: in formats I, U and S the operand is kept bit for bit. -/
theorem operandOf_commandOf {m : Mnemonic} (k : Word) (hN : m.format ≠ .N) (hQ : m.format ≠ .Q) :
    operandOf (commandOf m k) = k := by
  cases m with
  | setMaxSpeed | setAccel | setDecel | moveTo | moveRel | rotateDeg | rotateRev => rfl
  | enable | disable | stop | estop | run | setHome | goHome => exact absurd rfl hN
  | isRunning | getDist | getPos | getSpeed | getStatus => exact absurd rfl hQ

/-- R65: commands of formats N and Q are encoded with the operand 0. -/
theorem operandOf_eq_zero {i : Instr} (h : (mnemonicOf i).format = .N ∨ (mnemonicOf i).format = .Q) :
    operandOf i = 0#32 := by
  cases i with
  | enable | disable | stop | estop | run | setHome | goHome => rfl
  | isRunning | getDist | getPos | getSpeed | getStatus => rfl
  | setMaxSpeed | setAccel | setDecel | moveTo | moveRel | rotateDeg | rotateRev =>
    exact h.elim nofun nofun

/-! ## Decoding and encoding (R69) -/

theorem encode_eq_append (i : Instr) : encode i = opcodeOf (mnemonicOf i) ++ operandOf i := rfl

/-- R63: the opcode of a mnemonic selects that mnemonic's command. -/
theorem decodeFields_opcodeOf (m : Mnemonic) (k : Word) :
    decodeFields (opcodeOf m) k = .command (commandOf m k) := by
  cases m <;> rfl

/-- R64: an opcode the decoder accepts is the opcode of the command it answers; every other one is answered by name. -/
theorem decodeFields_cases (op : OpcodeField) (k : Word) :
    (∃ i, decodeFields op k = .command i ∧ opcodeOf (mnemonicOf i) = op) ∨ decodeFields op k = .illegal op := by
  unfold decodeFields
  split
  case h_20 => exact .inr rfl
  all_goals exact .inl ⟨_, rfl, rfl⟩

theorem decode_append (m : Mnemonic) (k : Word) : decode (opcodeOf m ++ k) = .command (commandOf m k) := by
  rw [decode, opcodeField_append, operandField_append, decodeFields_opcodeOf]

theorem decode_of_opcodeField {w : CmdWord} {m : Mnemonic} (h : opcodeOf m = opcodeField w) :
    decode w = .command (commandOf m (operandField w)) := by
  rw [decode, ← h, decodeFields_opcodeOf]

/-- R64: a word whose opcode names no command is illegal, whatever its operand. -/
theorem decode_of_unassigned {w : CmdWord} (h : ∀ m, opcodeOf m ≠ opcodeField w) :
    decode w = .illegal (opcodeField w) := by
  obtain ⟨i, -, hop⟩ | hill := decodeFields_cases (opcodeField w) (operandField w)
  · exact absurd hop (h (mnemonicOf i))
  · exact hill

theorem decode_encode (i : Instr) : decode (encode i) = .command i := by
  rw [encode_eq_append, decode_append, commandOf_mnemonicOf_operandOf]

/-- In formats I, U and S the word of a command is its opcode over the operand it was given. -/
theorem encode_commandOf {m : Mnemonic} (k : Word) (hN : m.format ≠ .N) (hQ : m.format ≠ .Q) :
    encode (commandOf m k) = opcodeOf m ++ k := by
  rw [encode_eq_append, mnemonicOf_commandOf, operandOf_commandOf k hN hQ]

/-- In formats N and Q the word of a command is its opcode over zeros: the ignored bits are lost. -/
theorem encode_commandOf_of_ignored {m : Mnemonic} (k : Word) (h : m.format = .N ∨ m.format = .Q) :
    encode (commandOf m k) = opcodeOf m ++ 0#32 := by
  have hzero : operandOf (commandOf m k) = 0#32 := operandOf_eq_zero (by rwa [mnemonicOf_commandOf])
  rw [encode_eq_append, mnemonicOf_commandOf, hzero]

/-- In formats I, U and S a legal word is encoded back whole from the command it decodes to. -/
theorem encode_commandOf_operandField {w : CmdWord} {m : Mnemonic} (h : opcodeOf m = opcodeField w)
    (hN : m.format ≠ .N) (hQ : m.format ≠ .Q) : encode (commandOf m (operandField w)) = w := by
  rw [encode_commandOf _ hN hQ, h, opcodeField_append_operandField]

/-- Settles O1: the command a legal word decodes to is `commandOf` its mnemonic and operand field, whose encoding is known by
format; an opcode of no mnemonic leaves only `Illegal`. -/
theorem decodeAndEncodeAgree : Obligations.DecodeAndEncodeAgree :=
  ⟨decode_encode, encode_eq_append, fun _ => operandOf_eq_zero,
    fun m _ hN hQ => ⟨commandOf m _, mnemonicOf_commandOf m _, encode_commandOf _ hN hQ⟩,
    fun w m h => ⟨commandOf m (operandField w), decode_of_opcodeField h, mnemonicOf_commandOf m _,
      fun hN hQ => ⟨operandOf_commandOf _ hN hQ, encode_commandOf_operandField h hN hQ⟩,
      fun hNQ => h ▸ encode_commandOf_of_ignored _ hNQ⟩,
    fun _ => decode_of_unassigned⟩

end Sys2Proof

/-! The move commands (spec/41_move.md R90-R93, R131): each starts a move or is refused with `RANGE`, and none looks at `EN`. -/

namespace Sys2Proof.Machine

/-! ## What each command answers -/

theorem exec_moveTo (p : Word) (s : State) : exec (.moveTo p) s = .next (startMove p s) := by
  rw [exec, execMoveTo, u32_s32]

theorem exec_moveRel (d : Word) (s : State) : exec (.moveRel d) s = .next (startMoveTo (s32 s.pos + s32 d) s) := rfl

theorem exec_rotateDeg (d : Word) (s : State) :
    exec (.rotateDeg d) s = .next (rotateBySteps (degreeSteps d s.ports.spr s.ports.gear) s) := rfl

theorem exec_rotateRev (d : Word) (s : State) :
    exec (.rotateRev d) s = .next (rotateBySteps (revolutionSteps d s.ports.spr s.ports.gear) s) := rfl

theorem exec_goHome (s : State) : exec .goHome s = .next (startMove 0#32 s) := rfl

theorem exec_stop (s : State) : exec .stop s = .next (haltMotion s) := rfl

theorem exec_isRunning (s : State) : exec .isRunning s = .next (respond (zext64 (moveInProgress s).toNat) s) := rfl

/-- R91-R93, R140: everything a move command can do is to start a move or to set `RANGE`. -/
theorem exec_move_cases {i : Instr} {s t : State}
    (hi : mnemonicOf i ∈ [Mnemonic.moveTo, .moveRel, .rotateDeg, .rotateRev, .goHome]) (h : exec i s = .next t) :
    (∃ p, t = startMove p s) ∨ t = raiseFault .range s := by
  cases i with
  | moveTo p | goHome => cases h; exact .inl ⟨_, rfl⟩
  | moveRel d => cases h; exact (startMoveTo_cases _ s).imp (fun ⟨_, e⟩ => ⟨_, e⟩) And.right
  | rotateDeg d | rotateRev d =>
    cases h; exact (rotateBySteps_cases _ s).imp (fun ⟨_, e⟩ => ⟨_, e⟩) And.right
  | _ => simp [mnemonicOf] at hi

/-! ## Independence of `EN` (R96) -/

theorem startMoveTo_setEn (n : Int) (s : State) (b : Bool) :
    startMoveTo n (s.setEn b) = (startMoveTo n s).setEn b := by
  unfold startMoveTo; split <;> rfl

theorem rotateBySteps_setEn (n : Int) (s : State) (b : Bool) :
    rotateBySteps n (s.setEn b) = (rotateBySteps n s).setEn b := by
  unfold rotateBySteps
  split
  · exact startMoveTo_setEn _ s b
  · rfl

/-- R96: a move command commutes with setting `EN`. -/
theorem exec_move_setEn {i : Instr} {s t : State} (b : Bool)
    (hi : mnemonicOf i ∈ [Mnemonic.moveTo, .moveRel, .rotateDeg, .rotateRev, .goHome]) (h : exec i s = .next t) :
    exec i (s.setEn b) = .next (t.setEn b) := by
  cases i with
  | moveTo p | goHome => cases h; rfl
  | moveRel d => cases h; exact congrArg _ (startMoveTo_setEn _ s b)
  | rotateDeg d | rotateRev d => cases h; exact congrArg _ (rotateBySteps_setEn _ s b)
  | _ => simp [mnemonicOf] at hi

/-- R101: a poll returns at step 1 while disabled or with no move pending. -/
theorem exec_run_of_gated {s : State} (h : s.en = false ∨ s.mov = false) : exec .run s = .next s :=
  congrArg Host.Outcome.next (if_pos h)

/-- Settles O29: moves commute with `EN`, and starting a move or setting `RANGE` leaves `POS`, `SPD` and the trace alone. -/
theorem moveCommandsIgnoreEnable : Obligations.MoveCommandsIgnoreEnable := by
  refine ⟨fun i s t b hi h => ⟨exec_move_setEn b hi h, ?_⟩, fun s he => exec_run_of_gated (.inl he)⟩
  obtain ⟨p, rfl⟩ | rfl := exec_move_cases hi h
  · exact ⟨rfl, rfl, rfl⟩
  · exact ⟨rfl, rfl, rfl⟩

/-! ## Zero-distance moves (R97) -/

/-- A target that is a register's value is never refused. -/
theorem startMoveTo_s32 (p : Word) (s : State) : startMoveTo (s32 p) s = startMove p s := by
  rw [startMoveTo, if_pos (fits32_s32 p), u32_s32]

theorem rotateBySteps_zero (s : State) : rotateBySteps 0 s = startMove s.pos s := by
  rw [rotateBySteps, if_pos (by decide), add_zero, startMoveTo_s32]

/-- R102: an enabled poll of a move with nothing left to go arrives. -/
theorem exec_run_of_arrived {s : State} (he : s.en = true) (hm : s.mov = true) (hd : distToGo s = 0) :
    exec .run s = .next (arrive s) := by
  have hgate : ¬ (s.en = false ∨ s.mov = false) := by simp [he, hm]
  rw [exec, execRun, if_neg hgate, if_pos hd]

/-- R120: a move with nothing left to go is not running, whatever `MOV` holds. -/
theorem moveInProgress_of_arrived {s : State} (hd : distToGo s = 0) : moveInProgress s = false := by
  simp [moveInProgress, hd]

theorem distToGo_startMove_pos (s : State) : distToGo (startMove s.pos s) = 0 := distToGo_eq_zero.2 rfl

/-- Each of the five ways to ask for a move by nothing starts a move to `POS`. -/
theorem exec_zeroMove {i : Instr} {s : State}
    (hi : i = .moveTo s.pos ∨ i = .moveRel 0#32
      ∨ (∃ d, i = .rotateDeg d ∧ degreeSteps d s.ports.spr s.ports.gear = 0)
      ∨ (∃ d, i = .rotateRev d ∧ revolutionSteps d s.ports.spr s.ports.gear = 0)
      ∨ (i = .goHome ∧ s.pos = 0#32)) :
    exec i s = .next (startMove s.pos s) := by
  obtain rfl | rfl | ⟨d, rfl, hsteps⟩ | ⟨d, rfl, hsteps⟩ | ⟨rfl, hpos⟩ := hi
  · exact exec_moveTo s.pos s
  · have hzero : s32 0#32 = 0 := by decide
    rw [exec_moveRel, hzero, add_zero, startMoveTo_s32]
  · rw [exec_rotateDeg, hsteps, rotateBySteps_zero]
  · rw [exec_rotateRev, hsteps, rotateBySteps_zero]
  · rw [exec_goHome, hpos]

/-- Settles O30: the move starts toward `POS`, so `DIST` is 0; what follows is the arrival, the gate or the halt of that state. -/
theorem zeroDistanceMoveEndsInOnePoll : Obligations.ZeroDistanceMoveEndsInOnePoll := by
  intro i s hi t
  have hdist : distToGo t = 0 := distToGo_startMove_pos s
  refine ⟨exec_zeroMove hi, ?_, fun he now => ?_, fun he now => ?_, exec_stop t⟩
  · rw [exec_isRunning, moveInProgress_of_arrived hdist]; rfl
  · exact exec_run_of_arrived he rfl hdist
  · exact exec_run_of_gated (.inl he)

end Sys2Proof.Machine

/-! The poll (spec/42_poll.md R100). -/

namespace Sys2Proof.Machine

/-- Settles O31: showing another clock sample leaves `EN` and `MOV` as they are, so the poll returns at its gate (R101), before
it would look at the limits. -/
theorem gatedPollDoesNothing : Obligations.GatedPollDoesNothing := by
  intro s now hgate
  have hgate' : (atClock now s).en = false ∨ (atClock now s).mov = false := by
    rwa [atClock_en, atClock_mov]
  exact exec_run_of_gated hgate'

end Sys2Proof.Machine

/-! The queries (spec/43_query.md R125): each only answers, and what the response port holds matters to no command. -/

namespace Sys2Proof.Machine

/-- The same engine with another content of its response port (R44). -/
def State.withRsp (r : Option DWord) (s : State) : State := { s with rsp := r }

/-- R7: the response port is no register. -/
@[simp] theorem read_withRsp (s : State) (r : Option DWord) (x : Reg) : (s.withRsp r).read x = s.read x := by
  cases x <;> rfl

/-- Every command answers a next state (spec/93 part 1). -/
theorem exec_total (i : Instr) (s : State) : ∃ t, exec i s = .next t := by
  cases i <;> exact ⟨_, rfl⟩

/-! ## What a query does -/

/-- R125: all a query does is to respond, with a word that depends neither on the input ports nor on the last response. -/
theorem exec_query {i : Instr} (hi : (mnemonicOf i).format = .Q) (s : State) :
    ∃ v, ∀ (r : Option DWord) (p : Ports),
      exec i { s.withRsp r with ports := p } = .next { s.withRsp (some v) with ports := p } := by
  cases i with
  | isRunning => exact ⟨zext64 (moveInProgress s).toNat, fun _ _ => rfl⟩
  | getDist => exact ⟨sext64 (distToGo s), fun _ _ => rfl⟩
  | getPos => exact ⟨sext64 (s32 s.pos), fun _ _ => rfl⟩
  | getSpeed => exact ⟨zext64 s.spd.toNat, fun _ _ => rfl⟩
  | getStatus => exact ⟨statusWord s, fun _ _ => rfl⟩
  | _ => exact nomatch hi

/-! ## No command reads the response port -/

theorem startMoveTo_withRsp (n : Int) (s : State) (r : Option DWord) :
    startMoveTo n (s.withRsp r) = (startMoveTo n s).withRsp r := by
  unfold startMoveTo; split <;> rfl

theorem rotateBySteps_withRsp (n : Int) (s : State) (r : Option DWord) :
    rotateBySteps n (s.withRsp r) = (rotateBySteps n s).withRsp r := by
  unfold rotateBySteps
  split
  · exact startMoveTo_withRsp _ s r
  · rfl

theorem takeStep_withRsp (now : Word) (s : State) (r : Option DWord) :
    takeStep now (s.withRsp r) = (takeStep now s).withRsp r := by
  rw [takeStep_eq, takeStep_eq]; rfl

/-- R103: an enabled poll with a distance to go and a limit still 0 is refused. -/
theorem exec_run_of_unconfigured {s : State} (he : s.en = true) (hm : s.mov = true) (hd : distToGo s ≠ 0)
    (hu : unconfigured s = true) : exec .run s = .next (raiseFault .unconfigured s) := by
  have hgate : ¬ (s.en = false ∨ s.mov = false) := by simp [he, hm]
  rw [exec, execRun, if_neg hgate, if_neg hd, if_pos hu]

/-- A poll takes the same way whatever the response port holds: every test of R100 is about registers and the clock. -/
theorem exec_run_withRsp {s t : State} (r : Option DWord) (h : exec .run s = .next t) :
    exec .run (s.withRsp r) = .next (t.withRsp r) := by
  obtain ⟨hgate, rfl⟩ | ⟨⟨he, hm, hd⟩, rfl⟩ | ⟨⟨he, hm, hd, hu⟩, rfl⟩ | ⟨hacts, hearly, rfl⟩ | ⟨hacts, hdue, rfl⟩ :=
    execRun_cases h
  · exact exec_run_of_gated hgate
  · exact exec_run_of_arrived he hm hd
  · exact exec_run_of_unconfigured he hm hd hu
  · exact (execRun_of_acts (s := s.withRsp r) hacts).trans (congrArg _ (if_neg hearly))
  · calc exec .run (s.withRsp r)
        = .next (takeStep s.ports.nowUs ((speedLaw s).withRsp r)) :=
          (execRun_of_acts (s := s.withRsp r) hacts).trans (congrArg _ (if_pos hdue))
      _ = .next ((takeStep s.ports.nowUs (speedLaw s)).withRsp r) := congrArg _ (takeStep_withRsp _ _ r)

/-- A command that is no query leaves the response port as it finds it, and does the rest as if it were not there. -/
theorem exec_withRsp_of_ne_query {i : Instr} {s t : State} (r : Option DWord) (hi : (mnemonicOf i).format ≠ .Q)
    (h : exec i s = .next t) : exec i (s.withRsp r) = .next (t.withRsp r) := by
  cases i with
  | setMaxSpeed v | setAccel v | setDecel v =>
    cases h; exact Eq.symm (congrArg Host.Outcome.next (apply_ite (State.withRsp r) (v = 0#32) _ _))
  | enable | disable | moveTo p | stop | estop | setHome | goHome => cases h; rfl
  | moveRel d => cases h; exact congrArg _ (startMoveTo_withRsp _ s r)
  | rotateDeg d | rotateRev d => cases h; exact congrArg _ (rotateBySteps_withRsp _ s r)
  | run => exact exec_run_withRsp r h
  | isRunning | getDist | getPos | getSpeed | getStatus => exact absurd rfl hi

/-- Two engines that differ in the response port only do the same; after a query not even the port differs. -/
theorem exec_withRsp (i : Instr) (s : State) (r : Option DWord) :
    ∃ t, exec i s = .next t
      ∧ exec i (s.withRsp r) = .next (t.withRsp (if (mnemonicOf i).format = .Q then t.rsp else r)) := by
  by_cases hi : (mnemonicOf i).format = .Q
  · obtain ⟨v, hv⟩ := exec_query hi s
    exact ⟨s.withRsp (some v), hv s.rsp s.ports, by rw [if_pos hi]; exact hv r s.ports⟩
  · obtain ⟨t, ht⟩ := exec_total i s
    exact ⟨t, ht, by rw [if_neg hi]; exact exec_withRsp_of_ne_query r hi ht⟩

/-- Settles O49: the state after a query is the one before it with the answer on the response port, which no register shows and no
later command reads. -/
theorem queriesArePure : Obligations.QueriesArePure := by
  intro i s t hi h
  obtain ⟨v, hv⟩ := exec_query hi s
  obtain rfl : s.withRsp (some v) = t := Host.Outcome.next.inj ((hv s.rsp s.ports).symm.trans h)
  exact ⟨read_withRsp s _, rfl, hv s.rsp, fun j => exec_withRsp j s _⟩

end Sys2Proof.Machine

/-! The fault bits (spec/60_exceptions.md R140-R148): which command raises which, that only reset clears one, and that a set bit
matters to no command but `GET_STATUS`. -/

namespace Sys2Proof.Machine

/-! ## The causes of a fault (R141) -/

/-- R141, the "raised by" column for commands: `CFG_VALUE` is for a setter with operand 0 (R143), and `ILLEGAL_CMD` for words that
are no command (R142). -/
def Raises (i : Instr) : FaultBit → Prop
  | .illegalCmd   => False
  | .cfgValue     => i ∈ [.setMaxSpeed 0#32, .setAccel 0#32, .setDecel 0#32]
  | .unconfigured => i = .run
  | .range        => mnemonicOf i ∈ [Mnemonic.moveRel, .rotateDeg, .rotateRev]

theorem takeStep_speedLaw_flt (now : Word) (s : State) : (takeStep now (speedLaw s)).flt = s.flt := by
  rw [takeStep_eq]; rfl

/-- A setter is refused with `CFG_VALUE` where its operand is 0, and otherwise writes a limit. -/
theorem setter_cases {i : Instr} {s t u : State} {v : Word}
    (ht : (if v = 0#32 then raiseFault .cfgValue s else u) = t) (hi : v = 0#32 → Raises i .cfgValue) (hu : u.flt = s.flt) :
    t.flt = s.flt ∨ ∃ f, Raises i f ∧ t = raiseFault f s := by
  by_cases hv : v = 0#32
  · exact .inr ⟨.cfgValue, hi hv, by rw [← ht, if_pos hv]⟩
  · exact .inl (by rw [← ht, if_neg hv, hu])

/-- R140, R141: a command leaves `FLT` alone, or all it does is to set the bit of a fault that it can raise. -/
theorem exec_flt_cases {i : Instr} {s t : State} (h : exec i s = .next t) :
    t.flt = s.flt ∨ ∃ f, Raises i f ∧ t = raiseFault f s := by
  cases i with
  | setMaxSpeed v | setAccel v | setDecel v =>
    exact setter_cases (Host.Outcome.next.inj h) (fun hv => by simp [Raises, hv]) rfl
  | enable | disable | moveTo p | stop | estop | setHome | goHome => cases h; exact .inl rfl
  | isRunning | getDist | getPos | getSpeed | getStatus => cases h; exact .inl rfl
  | moveRel d | rotateDeg d | rotateRev d =>
    obtain ⟨p, rfl⟩ | rfl := exec_move_cases (by simp [mnemonicOf]) h
    · exact .inl rfl
    · exact .inr ⟨.range, by simp [Raises, mnemonicOf], rfl⟩
  | run =>
    obtain ⟨-, rfl⟩ | ⟨-, rfl⟩ | ⟨-, rfl⟩ | ⟨-, -, rfl⟩ | ⟨-, -, rfl⟩ := execRun_cases h
    · exact .inl rfl
    · exact .inl rfl
    · exact .inr ⟨.unconfigured, rfl, rfl⟩
    · exact .inl rfl
    · exact .inl (takeStep_speedLaw_flt _ s)

/-- A bit of `FLT` that no fault of the command sets stays as it is. -/
theorem exec_flt_getLsbD {i : Instr} {s t : State} {k : Nat} (hk : ∀ f, Raises i f → (faultMask f).getLsbD k = false)
    (h : exec i s = .next t) : t.flt.getLsbD k = s.flt.getLsbD k := by
  obtain hflt | ⟨f, hf, rfl⟩ := exec_flt_cases h
  · rw [hflt]
  · rw [raiseFault_flt, BitVec.getLsbD_or, hk f hf, Bool.or_false]

/-! ## `CFG_VALUE` (R143) -/

theorem exec_of_raises_cfgValue {i : Instr} (hi : Raises i .cfgValue) (s : State) :
    exec i s = .next (raiseFault .cfgValue s) := by
  simp only [Raises, List.mem_cons, List.not_mem_nil, or_false] at hi
  obtain rfl | rfl | rfl := hi <;> rfl

/-- Settles O18: a setter with operand 0 is refused, and bit 1 is in the mask of `CFG_VALUE` only, which no other command raises. -/
theorem zeroOperandIsRefusedWithCfgValue : Obligations.ZeroOperandIsRefusedWithCfgValue := by
  refine ⟨fun s i hi => exec_of_raises_cfgValue hi s, fun s t i hi h => exec_flt_getLsbD (fun f hf => ?_) h⟩
  cases f with
  | cfgValue => exact absurd hf hi
  | illegalCmd | unconfigured | range => rfl

/-! ## `RANGE` (R145) -/

theorem degreeSteps_eq_tdiv (d spr gear : Word) :
    degreeSteps d spr gear = Int.tdiv (d.toInt * spr.toNat * gear.toNat) 1546188226560 := by
  rw [degreeSteps, trunc0_eq_tdiv, s32_eq_toInt]; rfl

theorem revolutionSteps_eq_tdiv (d spr gear : Word) :
    revolutionSteps d spr gear = Int.tdiv (d.toInt * spr.toNat * gear.toNat) 4294967296 := by
  rw [revolutionSteps, trunc0_eq_tdiv, s32_eq_toInt]; rfl

/-- R145 for one command: it is refused with `RANGE` where `out` holds, and leaves that bit alone where it does not. -/
def SetsRangeIff (i : Instr) (s : State) (out : Prop) : Prop :=
  (out → exec i s = .next (raiseFault .range s))
  ∧ (¬ out → ∃ t, exec i s = .next t ∧ t.flt.getLsbD 3 = s.flt.getLsbD 3)

/-- Bit 3 is in the mask of `RANGE` only, so a command that cannot raise `RANGE` leaves it alone. -/
theorem setsRangeIff_false {i : Instr} (hi : ¬ Raises i .range) (s : State) : SetsRangeIff i s False := by
  obtain ⟨t, h⟩ := exec_total i s
  refine ⟨False.elim, fun _ => ⟨t, h, exec_flt_getLsbD (fun f hf => ?_) h⟩⟩
  cases f with
  | range => exact absurd hf hi
  | illegalCmd | cfgValue | unconfigured => rfl

/-- A command that starts a move where `fits` holds, and is refused elsewhere. -/
theorem setsRangeIff_not {fits : Prop} {i : Instr} {s u : State} {p : Word} (hu : exec i s = .next u)
    (h : (fits ∧ u = startMove p s) ∨ (¬ fits ∧ u = raiseFault .range s)) : SetsRangeIff i s (¬ fits) := by
  obtain ⟨hfits, rfl⟩ | ⟨hfits, rfl⟩ := h
  · exact ⟨fun hout => absurd hfits hout, fun _ => ⟨_, hu, rfl⟩⟩
  · exact ⟨fun _ => hu, absurd hfits⟩

theorem setsRangeIff_moveRel (d : Word) (s : State) :
    SetsRangeIff (.moveRel d) s
      (¬ (-2147483648 ≤ s.pos.toInt + d.toInt ∧ s.pos.toInt + d.toInt ≤ 2147483647)) := by
  rw [← s32_eq_toInt, ← s32_eq_toInt]
  exact setsRangeIff_not (exec_moveRel d s) (startMoveTo_cases _ s)

/-- A rotation is refused for its step count or for its target. -/
theorem setsRangeIff_rotate {i : Instr} {s : State} {n : Int} (hi : exec i s = .next (rotateBySteps n s)) :
    SetsRangeIff i s (¬ (-2147483648 ≤ n ∧ n ≤ 2147483647)
      ∨ ¬ (-2147483648 ≤ s.pos.toInt + n ∧ s.pos.toInt + n ≤ 2147483647)) := by
  rw [← s32_eq_toInt, ← not_and_or]
  exact setsRangeIff_not hi (rotateBySteps_cases n s)

/-- Settles O24: the relative moves by the cases of their common ends, every other command because it cannot raise `RANGE`. -/
theorem rangeFaultExactlyWhenOutOfRange : Obligations.RangeFaultExactlyWhenOutOfRange := by
  intro i s fits turn outOfRange
  cases i with
  | moveRel d => exact setsRangeIff_moveRel d s
  | rotateDeg d => exact setsRangeIff_rotate (by rw [exec_rotateDeg, degreeSteps_eq_tdiv])
  | rotateRev d => exact setsRangeIff_rotate (by rw [exec_rotateRev, revolutionSteps_eq_tdiv])
  | _ => exact setsRangeIff_false (by simp [Raises, mnemonicOf]) s

/-! ## Set bits block nothing (R148) -/

/-- The same engine with more fault bits set. -/
def State.withFaults (bits : BitVec 4) (s : State) : State := { s with flt := s.flt ||| bits }

theorem raiseFault_withFaults (f : FaultBit) (s : State) (bits : BitVec 4) :
    raiseFault f (s.withFaults bits) = (raiseFault f s).withFaults bits := by
  have hcomm : s.flt ||| bits ||| faultMask f = s.flt ||| faultMask f ||| bits := by
    rw [BitVec.or_assoc, BitVec.or_comm bits, ← BitVec.or_assoc]
  exact congrArg (fun b => { s with flt := b }) hcomm

theorem startMoveTo_withFaults (n : Int) (s : State) (bits : BitVec 4) :
    startMoveTo n (s.withFaults bits) = (startMoveTo n s).withFaults bits := by
  unfold startMoveTo
  split
  · rfl
  · exact raiseFault_withFaults .range s bits

theorem rotateBySteps_withFaults (n : Int) (s : State) (bits : BitVec 4) :
    rotateBySteps n (s.withFaults bits) = (rotateBySteps n s).withFaults bits := by
  unfold rotateBySteps
  split
  · exact startMoveTo_withFaults _ s bits
  · exact raiseFault_withFaults .range s bits

theorem takeStep_withFaults (now : Word) (s : State) (bits : BitVec 4) :
    takeStep now (s.withFaults bits) = (takeStep now s).withFaults bits := by
  rw [takeStep_eq, takeStep_eq]; rfl

/-- A setter's test is about its operand, so it takes the same way. -/
theorem setter_withFaults {s u u' : State} (v : Word) (bits : BitVec 4) (hu : u' = u.withFaults bits) :
    (if v = 0#32 then raiseFault .cfgValue (s.withFaults bits) else u')
      = (if v = 0#32 then raiseFault .cfgValue s else u).withFaults bits := by
  rw [hu, raiseFault_withFaults, apply_ite (State.withFaults bits)]

/-- A poll takes the same way whatever `FLT` holds: every test of R100 is about other registers and the clock. -/
theorem exec_run_withFaults {s t : State} (bits : BitVec 4) (h : exec .run s = .next t) :
    exec .run (s.withFaults bits) = .next (t.withFaults bits) := by
  obtain ⟨hgate, rfl⟩ | ⟨⟨he, hm, hd⟩, rfl⟩ | ⟨⟨he, hm, hd, hu⟩, rfl⟩ | ⟨hacts, hearly, rfl⟩ | ⟨hacts, hdue, rfl⟩ :=
    execRun_cases h
  · exact exec_run_of_gated hgate
  · exact exec_run_of_arrived he hm hd
  · exact (exec_run_of_unconfigured (s := s.withFaults bits) he hm hd hu).trans
      (congrArg _ (raiseFault_withFaults _ s bits))
  · exact (execRun_of_acts (s := s.withFaults bits) hacts).trans (congrArg _ (if_neg hearly))
  · calc exec .run (s.withFaults bits)
        = .next (takeStep s.ports.nowUs ((speedLaw s).withFaults bits)) :=
          (execRun_of_acts (s := s.withFaults bits) hacts).trans (congrArg _ (if_pos hdue))
      _ = .next ((takeStep s.ports.nowUs (speedLaw s)).withFaults bits) := congrArg _ (takeStep_withFaults _ _ bits)

/-- R148: only `GET_STATUS` reads `FLT`, so every other command does what it would have done. -/
theorem exec_withFaults_of_ne_getStatus {i : Instr} {s t : State} (bits : BitVec 4) (hi : i ≠ .getStatus)
    (h : exec i s = .next t) : exec i (s.withFaults bits) = .next (t.withFaults bits) := by
  cases i with
  | setMaxSpeed v | setAccel v | setDecel v => cases h; exact congrArg Host.Outcome.next (setter_withFaults v bits rfl)
  | enable | disable | moveTo p | stop | estop | setHome | goHome => cases h; rfl
  | moveRel d => cases h; exact congrArg _ (startMoveTo_withFaults _ s bits)
  | rotateDeg d | rotateRev d => cases h; exact congrArg _ (rotateBySteps_withFaults _ s bits)
  | run => exact exec_run_withFaults bits h
  | isRunning | getDist | getPos | getSpeed => cases h; rfl
  | getStatus => exact absurd rfl hi

/-- R148: with more bits set, a command does what it would have done, the answer of `GET_STATUS` apart. -/
theorem exec_withFaults {i : Instr} {s t : State} (bits : BitVec 4) (h : exec i s = .next t) :
    ∃ r, exec i (s.withFaults bits) = .next ((t.withFaults bits).withRsp r) ∧ (i ≠ .getStatus → r = t.rsp) := by
  by_cases hi : i = .getStatus
  · subst hi; cases h; exact ⟨some (statusWord (s.withFaults bits)), rfl, fun hne => absurd rfl hne⟩
  · exact ⟨t.rsp, exec_withFaults_of_ne_getStatus bits hi h, fun _ => rfl⟩

/-! ## Only reset clears a bit (R148) -/

/-- Every bit of `FLT` that is set before is set after. -/
def KeepsFaults (s t : State) : Prop := s.flt ||| t.flt = t.flt

theorem keepsFaults_of_eq {s t : State} (h : t.flt = s.flt) : KeepsFaults s t := by
  rw [KeepsFaults, h, BitVec.or_self]

theorem keepsFaults_raiseFault (f : FaultBit) (s : State) : KeepsFaults s (raiseFault f s) := by
  rw [KeepsFaults, raiseFault_flt, ← BitVec.or_assoc, BitVec.or_self]

theorem exec_keepsFaults {i : Instr} {s t : State} (h : exec i s = .next t) : KeepsFaults s t := by
  obtain hflt | ⟨f, -, rfl⟩ := exec_flt_cases h
  · exact keepsFaults_of_eq hflt
  · exact keepsFaults_raiseFault f s

/-- R42, R148: a change of an input level that leaves `rst` released reaches no fault bit. -/
theorem applyStimulus_flt {x : Stimulus} {s : State} (h : (applyStimulus x s).ports.rst = false) :
    (applyStimulus x s).flt = s.flt := by
  obtain ⟨-, e⟩ | ⟨p, w, e, -, -⟩ := applyStimulus_cases x s
  · rw [e] at h; exact absurd h (by simp)
  · rw [e]

theorem takeStimulus_flt {s : State} (h : (takeStimulus s).ports.rst = false) : (takeStimulus s).flt = s.flt := by
  revert h
  unfold takeStimulus
  split
  · exact fun _ => rfl
  · exact applyStimulus_flt

theorem awaitInput_of_released {s : State} (h : s.ports.rst = false) : awaitInput s = takeStimulus s := by
  rw [awaitInput, h]; rfl

/-- A step outside reset executes a command, takes an illegal word or lets the environment move on. -/
theorem step_keepsFaults {s t : State} (h : step s = .next t) (hs : s.ports.rst = false) (ht : t.ports.rst = false) :
    KeepsFaults s t := by
  obtain ⟨-, ⟨i, -, hexec⟩ | ⟨op, -, rfl⟩⟩ | ⟨-, rfl⟩ := step_cases h
  · exact exec_keepsFaults (s := acceptCommand s) hexec
  · exact keepsFaults_raiseFault .illegalCmd (acceptCommand s)
  · rw [awaitInput_of_released hs] at ht ⊢
    exact keepsFaults_of_eq (takeStimulus_flt ht)

/-- Settles O53: a step keeps every set bit, reset has none, and commands commute with setting more. -/
theorem onlyResetClearsFaultBits : Obligations.OnlyResetClearsFaultBits :=
  ⟨fun _ _ => step_keepsFaults, resetEngine_flt, fun _ _ _ bits => exec_withFaults bits⟩

end Sys2Proof.Machine

/-! What a command can do, once for all of them (spec/40 to 44): its effect on the state, and from it the registers it writes
and the frame of R8. -/

namespace Sys2Proof.Machine

/-! ## What a poll writes -/

section

variable (now : Word) (s : State)

@[simp] theorem takeStep_tgt : (takeStep now s).tgt = s.tgt := by rw [takeStep_eq]
@[simp] theorem takeStep_spd : (takeStep now s).spd = s.spd := by rw [takeStep_eq]
@[simp] theorem takeStep_vmax : (takeStep now s).vmax = s.vmax := by rw [takeStep_eq]
@[simp] theorem takeStep_acc : (takeStep now s).acc = s.acc := by rw [takeStep_eq]
@[simp] theorem takeStep_dec : (takeStep now s).dec = s.dec := by rw [takeStep_eq]
@[simp] theorem takeStep_ivl : (takeStep now s).ivl = s.ivl := by rw [takeStep_eq]
@[simp] theorem takeStep_lst : (takeStep now s).lst = now := by rw [takeStep_eq]
@[simp] theorem takeStep_en : (takeStep now s).en = s.en := by rw [takeStep_eq]
@[simp] theorem takeStep_mov : (takeStep now s).mov = s.mov := by rw [takeStep_eq]
@[simp] theorem takeStep_dir : (takeStep now s).dir = decide (0 < distToGo s) := by rw [takeStep_eq]
@[simp] theorem takeStep_flt : (takeStep now s).flt = s.flt := by rw [takeStep_eq]
@[simp] theorem takeStep_evt : (takeStep now s).evt = s.evt ++
    (if s.dir = decide (0 < distToGo s) then [.pulse] else [.setDir (decide (0 < distToGo s)), .pulse]) := by
  rw [takeStep_eq]
@[simp] theorem takeStep_rsp : (takeStep now s).rsp = s.rsp := by rw [takeStep_eq]
@[simp] theorem takeStep_waiting : (takeStep now s).waiting = s.ports.drvBusy := by rw [takeStep_eq]
@[simp] theorem takeStep_ports : (takeStep now s).ports = s.ports := by rw [takeStep_eq]
@[simp] theorem takeStep_env : (takeStep now s).env = s.env := by rw [takeStep_eq]
@[simp] theorem takeStep_floorFx : (takeStep now s).floorFx = s.floorFx := by rw [takeStep_eq]

@[simp] theorem speedLaw_pos : (speedLaw s).pos = s.pos := rfl
@[simp] theorem speedLaw_tgt : (speedLaw s).tgt = s.tgt := rfl
@[simp] theorem speedLaw_vmax : (speedLaw s).vmax = s.vmax := rfl
@[simp] theorem speedLaw_acc : (speedLaw s).acc = s.acc := rfl
@[simp] theorem speedLaw_dec : (speedLaw s).dec = s.dec := rfl
@[simp] theorem speedLaw_ivl : (speedLaw s).ivl = intervalOf (nextSpeed s) := rfl
@[simp] theorem speedLaw_lst : (speedLaw s).lst = s.lst := rfl
@[simp] theorem speedLaw_en : (speedLaw s).en = s.en := rfl
@[simp] theorem speedLaw_mov : (speedLaw s).mov = s.mov := rfl
@[simp] theorem speedLaw_dir : (speedLaw s).dir = s.dir := rfl
@[simp] theorem speedLaw_flt : (speedLaw s).flt = s.flt := rfl
@[simp] theorem speedLaw_evt : (speedLaw s).evt = s.evt := rfl
@[simp] theorem speedLaw_rsp : (speedLaw s).rsp = s.rsp := rfl
@[simp] theorem speedLaw_waiting : (speedLaw s).waiting = s.waiting := rfl
@[simp] theorem speedLaw_ports : (speedLaw s).ports = s.ports := rfl
@[simp] theorem speedLaw_env : (speedLaw s).env = s.env := rfl
@[simp] theorem speedLaw_floorFx : (speedLaw s).floorFx = s.floorFx := rfl

end

/-! ## The effect of a command -/

/-- R90-R93, R131: the commands that start a move toward a target. -/
def moveMnemonics : List Mnemonic := [.moveTo, .moveRel, .rotateDeg, .rotateRev, .goHome]

/-- What a command can make of a state: one constructor per way a command ends. -/
inductive Effect (s : State) : Instr → State → Prop where
  | fault {i : Instr} {f : FaultBit} (hf : Raises i f) : Effect s i (raiseFault f s)
  | setVmax {v : Word} (hv : v ≠ 0#32) : Effect s (.setMaxSpeed v) (s.setVmax v)
  | setAcc {v : Word} (hv : v ≠ 0#32) : Effect s (.setAccel v) (s.setAcc v)
  | setDec {v : Word} (hv : v ≠ 0#32) : Effect s (.setDecel v) (s.setDec v)
  | enable : Effect s .enable (s.setEn true)
  | disable : Effect s .disable (s.setEn false)
  | move {i : Instr} (p : Word) (hi : mnemonicOf i ∈ moveMnemonics) : Effect s i (startMove p s)
  | stop : Effect s .stop (haltMotion s)
  | estop : Effect s .estop ((haltMotion s).setEn false)
  | gated (hgate : s.en = false ∨ s.mov = false) : Effect s .run s
  | arrived (hdist : distToGo s = 0) : Effect s .run (arrive s)
  | waits (hacts : PollActs s) : Effect s .run (speedLaw s)
  | steps (hacts : PollActs s) : Effect s .run (takeStep s.ports.nowUs (speedLaw s))
  | answer {i : Instr} (v : DWord) (hi : (mnemonicOf i).format = .Q) : Effect s i (respond v s)
  | setHome : Effect s .setHome (s.setPos 0#32)

/-- A setter is refused for the operand 0 and writes its limit otherwise (R80-R82). -/
theorem effect_of_setter {i : Instr} {s u : State} {v : Word} (hzero : v = 0#32 → Raises i .cfgValue)
    (hset : v ≠ 0#32 → Effect s i u) : Effect s i (if v = 0#32 then raiseFault .cfgValue s else u) := by
  split
  · exact .fault (hzero ‹_›)
  · exact hset ‹_›

/-- Every command has one of the effects. -/
theorem exec_effect {i : Instr} {s t : State} (h : exec i s = .next t) : Effect s i t := by
  cases i with
  | setMaxSpeed v => cases h; exact effect_of_setter (fun hv => by simp [Raises, hv]) .setVmax
  | setAccel v => cases h; exact effect_of_setter (fun hv => by simp [Raises, hv]) .setAcc
  | setDecel v => cases h; exact effect_of_setter (fun hv => by simp [Raises, hv]) .setDec
  | enable => cases h; exact .enable
  | disable => cases h; exact .disable
  | moveTo p | goHome => cases h; exact .move _ (by simp [mnemonicOf, moveMnemonics])
  | moveRel d | rotateDeg d | rotateRev d =>
    obtain ⟨p, rfl⟩ | rfl := exec_move_cases (by simp [mnemonicOf]) h
    · exact .move p (by simp [mnemonicOf, moveMnemonics])
    · exact .fault (by simp [Raises, mnemonicOf])
  | stop => cases h; exact .stop
  | estop => cases h; exact .estop
  | run =>
    obtain ⟨hgate, rfl⟩ | ⟨⟨-, -, hdist⟩, rfl⟩ | ⟨-, rfl⟩ | ⟨hacts, -, rfl⟩ | ⟨hacts, -, rfl⟩ := execRun_cases h
    · exact .gated hgate
    · exact .arrived hdist
    · exact .fault rfl
    · exact .waits hacts
    · exact .steps hacts
  | isRunning | getDist | getPos | getSpeed | getStatus => cases h; exact .answer _ rfl
  | setHome => cases h; exact .setHome

/-! ## The frame of a command (R8) -/

/-- R8: no command touches the input ports, what is still to come on them, or the floor parameter. -/
theorem exec_environment {i : Instr} {s t : State} (h : exec i s = .next t) :
    t.ports = s.ports ∧ t.env = s.env ∧ t.floorFx = s.floorFx := by
  cases exec_effect h with
  | steps => simp
  | _ => exact ⟨rfl, rfl, rfl⟩

/-- R44: only a query responds. -/
theorem exec_rsp_of_ne_query {i : Instr} {s t : State} (hi : (mnemonicOf i).format ≠ .Q) (h : exec i s = .next t) :
    t.rsp = s.rsp := by
  cases exec_effect h with
  | answer v hq => exact absurd hq hi
  | steps => simp
  | _ => rfl

/-- R8: the scheduler's registers, the direction, the trace and the driver's wait belong to `RUN`. -/
theorem exec_frame_of_ne_run {i : Instr} {s t : State} (hi : i ≠ .run) (h : exec i s = .next t) :
    t.ivl = s.ivl ∧ t.lst = s.lst ∧ t.dir = s.dir ∧ t.evt = s.evt ∧ t.waiting = s.waiting := by
  cases exec_effect h with
  | gated | arrived | waits | steps => exact absurd rfl hi
  | _ => exact ⟨rfl, rfl, rfl, rfl, rfl⟩

/-- Settles O54: the three parts of the frame. -/
theorem frameOfEveryCommand : Obligations.FrameOfEveryCommand := by
  intro i s t h
  obtain ⟨hports, henv, hfloor⟩ := exec_environment h
  exact ⟨hports, henv, hfloor, fun hi => exec_rsp_of_ne_query hi h, fun hi => exec_frame_of_ne_run hi h⟩

/-! ## The writers of a register (R10) -/

/-- R10, the "Written by" column. -/
def writersOf : Reg → List Mnemonic
  | .POS => [.run, .setHome]
  | .TGT => [.moveTo, .moveRel, .rotateDeg, .rotateRev, .goHome, .stop, .estop]
  | .SPD => [.run, .stop, .estop]
  | .VMAX => [.setMaxSpeed]
  | .ACC => [.setAccel]
  | .DEC => [.setDecel]
  | .IVL => [.run]
  | .LST => [.run]
  | .EN => [.enable, .disable, .estop]
  | .MOV => [.moveTo, .moveRel, .rotateDeg, .rotateRev, .goHome, .stop, .estop, .run]
  | .DIR => [.run]
  | .FLT => [.setMaxSpeed, .setAccel, .setDecel, .run, .moveRel, .rotateDeg, .rotateRev]

/-- R141: a command that can raise a fault is a writer of `FLT`. -/
theorem mem_writersOf_flt {i : Instr} {f : FaultBit} (hf : Raises i f) : mnemonicOf i ∈ writersOf .FLT := by
  cases f with
  | illegalCmd => exact hf.elim
  | cfgValue =>
    simp only [Raises, List.mem_cons, List.not_mem_nil, or_false] at hf
    obtain rfl | rfl | rfl := hf <;> decide
  | unconfigured => cases hf; decide
  | range => simp only [writersOf, Raises, List.mem_cons] at hf ⊢; tauto

/-- The mnemonics that start a move are writers of `TGT` and of `MOV`. -/
theorem mem_writersOf_of_move {m : Mnemonic} (hm : m ∈ moveMnemonics) : m ∈ writersOf .TGT ∧ m ∈ writersOf .MOV := by
  revert m; decide

/-- A register that a command's effect changes has that command among its writers. -/
theorem mem_writersOf {i : Instr} {s t : State} {r : Reg} (h : exec i s = .next t) (hr : t.read r ≠ s.read r) :
    mnemonicOf i ∈ writersOf r := by
  cases exec_effect h with
  | fault hf =>
    cases r with
    | FLT => exact mem_writersOf_flt hf
    | _ => exact absurd rfl hr
  | setVmax hv =>
    cases r with
    | VMAX => exact List.mem_singleton.2 rfl
    | _ => exact absurd rfl hr
  | setAcc hv =>
    cases r with
    | ACC => exact List.mem_singleton.2 rfl
    | _ => exact absurd rfl hr
  | setDec hv =>
    cases r with
    | DEC => exact List.mem_singleton.2 rfl
    | _ => exact absurd rfl hr
  | enable | disable =>
    cases r with
    | EN => decide
    | _ => exact absurd rfl hr
  | move p hi =>
    cases r with
    | TGT => exact (mem_writersOf_of_move hi).1
    | MOV => exact (mem_writersOf_of_move hi).2
    | _ => exact absurd rfl hr
  | stop =>
    cases r with
    | TGT | MOV | SPD => decide
    | _ => exact absurd rfl hr
  | estop =>
    cases r with
    | TGT | MOV | SPD | EN => decide
    | _ => exact absurd rfl hr
  | gated hgate => exact absurd rfl hr
  | arrived hdist =>
    cases r with
    | MOV | SPD => decide
    | _ => exact absurd rfl hr
  | waits hacts =>
    cases r with
    | SPD | IVL => decide
    | _ => exact absurd rfl hr
  | steps hacts =>
    rw [takeStep_eq] at hr
    cases r with
    | SPD | IVL | POS | DIR | LST => decide
    | _ => exact absurd rfl hr
  | answer v hi => exact absurd (read_withRsp s (some v) r) hr
  | setHome =>
    cases r with
    | POS => decide
    | _ => exact absurd rfl hr

/-- Settles O55: `writersOf` is the table's column. -/
theorem registersChangeOnlyByTheirWriters : Obligations.RegistersChangeOnlyByTheirWriters := by
  intro i s t r h hr
  have hmem := mem_writersOf h hr
  cases r <;> exact hmem

/-! ## Limits and faults -/

/-- Settles O19: a setter writes an operand that is not 0, and no other command writes a limit. -/
theorem configuredLimitsStayConfigured : Obligations.ConfiguredLimitsStayConfigured := by
  intro i s t h
  cases exec_effect h with
  | setVmax hv => exact ⟨fun _ => hv, id, id⟩
  | setAcc hv => exact ⟨id, fun _ => hv, id⟩
  | setDec hv => exact ⟨id, id, fun _ => hv⟩
  | steps => simp
  | _ => exact ⟨id, id, id⟩

/-- Settles O51: a command that does not leave `FLT` alone ends in `raiseFault`. -/
theorem faultingCommandDoesNothingElse : Obligations.FaultingCommandDoesNothingElse := by
  intro i s t h hne
  obtain hflt | ⟨f, -, rfl⟩ := exec_flt_cases h
  · exact absurd hflt hne
  · rfl

/-- Settles O52: the mask of a fault that a command raises is the one of its kind of command. -/
theorem eachCommandSetsItsOwnFaultOnly : Obligations.EachCommandSetsItsOwnFaultOnly := by
  intro i s t h
  obtain hflt | ⟨f, hf, rfl⟩ := exec_flt_cases h
  · exact .inl hflt
  refine .inr ?_
  cases f with
  | illegalCmd => exact hf.elim
  | cfgValue =>
    simp only [Raises, List.mem_cons, List.not_mem_nil, or_false] at hf
    obtain rfl | rfl | rfl := hf <;> rfl
  | unconfigured => cases hf; rfl
  | range =>
    cases i with
    | moveRel d | rotateDeg d | rotateRev d => rfl
    | _ => simp [Raises, mnemonicOf] at hf

end Sys2Proof.Machine

/-! One step of the machine (spec/20_memory.md R43; spec/10_state.md R28): how a command word is taken, and what a step outside
reset can do. -/

namespace Sys2Proof.Machine

/-! ## Taking a command -/

/-- R43: a valid word on the port of a ready engine is transferred and run. -/
theorem step_of_ready {s : State} (hv : s.ports.cmdValid = true) (hr : cmdReady s = true) :
    step s = runWord s.ports.cmdWord (acceptCommand s) := by
  rw [step, fetch_eq_some.2 ⟨hv, hr, rfl⟩]

theorem step_of_command {s : State} {i : Instr} (hv : s.ports.cmdValid = true) (hr : cmdReady s = true)
    (hd : decode s.ports.cmdWord = .command i) : step s = exec i (acceptCommand s) := by
  rw [step_of_ready hv hr, runWord, hd]

theorem step_of_illegal {s : State} {op : OpcodeField} (hv : s.ports.cmdValid = true) (hr : cmdReady s = true)
    (hd : decode s.ports.cmdWord = .illegal op) : step s = .next (takeIllegal (acceptCommand s)) := by
  rw [step_of_ready hv hr, runWord, hd]

/-- Where no command can be taken the environment moves on (log 2). -/
theorem step_of_idle {s : State} (h : s.ports.cmdValid = false ∨ cmdReady s = false) :
    step s = .next (awaitInput s) := by
  rw [step, fetch_eq_none.2 h]

/-- R46, R170: the engine is not ready while `rst` is asserted or while the driver holds back a stepping `RUN`. -/
theorem cmdReady_eq_false {s : State} :
    cmdReady s = false ↔ s.ports.rst = true ∨ (s.waiting = true ∧ s.ports.drvBusy = true) := by
  rw [← Bool.not_eq_true, cmdReady_eq_true, not_and_or, not_or, Bool.not_eq_false, Bool.not_eq_false, Bool.not_eq_false]

/-- R149: without `rst`, no command can be taken where none is presented or the driver holds the engine back. -/
theorem not_taken_of_released {s : State}
    (h : s.ports.cmdValid = false ∨ (s.waiting = true ∧ s.ports.drvBusy = true)) :
    s.ports.cmdValid = false ∨ cmdReady s = false :=
  h.imp_right fun hbusy => cmdReady_eq_false.2 (.inr hbusy)

theorem takeStimulus_nil {s : State} (h : s.env = []) : takeStimulus s = s := by
  rw [takeStimulus, h]

theorem takeStimulus_cons {s : State} {x : Stimulus} {rest : List Stimulus} (h : s.env = x :: rest) :
    takeStimulus s = applyStimulus x { s with env := rest } := by
  rw [takeStimulus, h]

/-- R170: while `rst` is asserted the engine is put at its reset values first. -/
theorem awaitInput_of_asserted {s : State} (h : s.ports.rst = true) : awaitInput s = takeStimulus (resetEngine s) := by
  rw [awaitInput, if_pos h]

/-- Settles O6: `step_of_command`, the transfer written out. -/
theorem stepRunsTheDecodedCommand : Obligations.StepRunsTheDecodedCommand :=
  fun _ _ hv hrst hdrv hd => step_of_command hv (cmdReady_eq_true.2 ⟨hrst, hdrv⟩) hd

/-- Settles O8: the environment moves on, and it has nothing left to do. -/
theorem idleEngineChangesNothing : Obligations.IdleEngineChangesNothing := by
  intro s hrst hidle henv
  rw [step_of_idle (not_taken_of_released hidle), awaitInput_of_released hrst, takeStimulus_nil henv]

/-- A word that was transferred always answers a next state. -/
theorem runWord_total (w : CmdWord) (s : State) : ∃ t, runWord w s = .next t := by
  unfold runWord
  cases decode w with
  | command i => exact exec_total i s
  | illegal op => exact ⟨_, rfl⟩

theorem step_total (s : State) : SafeStep s := by
  unfold SafeStep step
  cases fetch s with
  | some w => exact runWord_total w _
  | none => exact ⟨_, rfl⟩

/-- Settles O9: every command and every step is total. -/
theorem everyCommandAndStepAnswersNext : Obligations.EveryCommandAndStepAnswersNext :=
  ⟨exec_total, step_total⟩

/-- Settles O10: a transfer frees the response port, and of the commands a query alone fills it. -/
theorem onlyQueriesRespond : Obligations.OnlyQueriesRespond := by
  intro s t i hv hrst hdrv hd h
  rw [step_of_command hv (cmdReady_eq_true.2 ⟨hrst, hdrv⟩) hd] at h
  obtain ⟨hports, -, -⟩ := exec_environment h
  have hreleased : t.ports.rst = false := by rw [hports]; exact hrst
  rw [rspValid, hreleased, Bool.not_false, Bool.true_and]
  by_cases hi : (mnemonicOf i).format = .Q
  · obtain ⟨v, hanswer⟩ := exec_query hi (acceptCommand s)
    obtain rfl := Host.Outcome.next.inj ((hanswer _ _).symm.trans h)
    exact iff_of_true rfl hi
  · rw [exec_rsp_of_ne_query hi h]
    exact iff_of_false Bool.false_ne_true hi

/-! ## Illegal words (R142) -/

/-- R63: the nineteen mnemonics, in the order of the table. -/
def allMnemonics : List Mnemonic :=
  [.setMaxSpeed, .setAccel, .setDecel, .enable, .disable, .moveTo, .moveRel, .rotateDeg, .rotateRev, .stop, .estop, .run,
   .isRunning, .getDist, .getPos, .getSpeed, .getStatus, .setHome, .goHome]

theorem mem_allMnemonics (m : Mnemonic) : m ∈ allMnemonics := by
  cases m <;> decide

theorem mem_assigned_iff {op : OpcodeField} : op ∈ allMnemonics.map opcodeOf ↔ ∃ m, opcodeOf m = op := by
  simp [mem_allMnemonics]

/-- Settles O7: the nineteen opcodes are those of `allMnemonics`; a word with none of them decodes to `Illegal`, which runs
`takeIllegal`, and a word with one of them to its command. -/
theorem illegalOpcodeSetsOnlyIllegalCmd : Obligations.IllegalOpcodeSetsOnlyIllegalCmd := by
  refine ⟨fun s hv hrst hdrv hop => ?_, fun w hop op hill => ?_⟩
  · have hunassigned : ∀ m, opcodeOf m ≠ opcodeField s.ports.cmdWord :=
      fun m hm => hop (mem_assigned_iff.2 ⟨m, hm⟩)
    exact step_of_illegal hv (cmdReady_eq_true.2 ⟨hrst, hdrv⟩) (decode_of_unassigned hunassigned)
  · obtain ⟨m, hm⟩ := mem_assigned_iff.1 hop
    rw [decode_of_opcodeField hm] at hill
    cases hill

/-! ## Changes of the input levels -/

theorem read_withPorts (s : State) (p : Ports) (w : Bool) (env : List Stimulus) (r : Reg) :
    State.read { s with ports := p, waiting := w, env := env } r = s.read r := by
  cases r <;> rfl

/-- R42, R149: a change of an input level that does not assert `rst` reaches the ports and at most ends a wait. -/
theorem applyStimulus_of_ne_reset {x : Stimulus} (hx : x ≠ .reset true) (s : State) :
    ∃ p w, applyStimulus x s = { s with ports := p, waiting := w } ∧ (w = true → s.waiting = true) := by
  obtain ⟨hreset, -⟩ | ⟨p, w, heq, hw, -⟩ := applyStimulus_cases x s
  · exact absurd hreset hx
  · exact ⟨p, w, heq, fun h => (hw h).1⟩

/-- R42: where `rst` stays released, an input change touches the ports, the wait and the changes still to come, nothing else. -/
theorem awaitInput_of_stays_released {s : State} (hs : s.ports.rst = false) (ht : (awaitInput s).ports.rst = false) :
    ∃ p w env, awaitInput s = { s with ports := p, waiting := w, env := env } := by
  rw [awaitInput_of_released hs] at ht ⊢
  cases henv : s.env with
  | nil => exact ⟨s.ports, s.waiting, s.env, takeStimulus_nil henv⟩
  | cons x rest =>
    rw [takeStimulus_cons henv] at ht ⊢
    have hx : x ≠ .reset true := by rintro rfl; cases ht
    obtain ⟨p, w, heq, -⟩ := applyStimulus_of_ne_reset hx { s with env := rest }
    exact ⟨p, w, rest, heq⟩

/-- Log 2: with no command presented, a step is the next input change. -/
theorem step_of_input {s : State} {x : Stimulus} {rest : List Stimulus} (hrst : s.ports.rst = false)
    (hv : s.ports.cmdValid = false) (henv : s.env = x :: rest) :
    step s = .next (applyStimulus x { s with env := rest }) := by
  rw [step_of_idle (.inl hv), awaitInput_of_released hrst, takeStimulus_cons henv]

/-- Settles O12: one case per kind of change. -/
theorem inputChangesTouchNoRegister : Obligations.InputChangesTouchNoRegister := by
  intro s x rest hrst hv henv hx
  refine ⟨_, step_of_input hrst hv henv, ?_⟩
  cases x with
  | reset level =>
    cases level with
    | true => exact absurd rfl hx
    | false => exact ⟨rfl, read_withPorts s _ _ _, rfl, rfl, rfl, rfl, rfl, rfl, rfl, hv, rfl⟩
  | command w => exact ⟨rfl, read_withPorts s _ _ _, rfl, rfl, rfl, rfl, rfl, rfl, rfl, rfl, rfl⟩
  | withdraw => exact ⟨rfl, read_withPorts s _ _ _, rfl, rfl, rfl, rfl, rfl, rfl, rfl, rfl, rfl⟩
  | clock v | stepsPerRev v | gearRatio v | driverBusy b =>
    exact ⟨rfl, read_withPorts s _ _ _, rfl, rfl, rfl, rfl, rfl, rfl, rfl, hv, rfl⟩

/-- R46: a stalled engine becomes ready by the fall of `drv_busy_i` and by no other change but a reset. -/
theorem cmdReady_applyStimulus_of_stalled {s : State} (hrst : s.ports.rst = false) (hw : s.waiting = true)
    (hb : s.ports.drvBusy = true) {x : Stimulus} (hx : x ≠ .reset true) :
    cmdReady (applyStimulus x s) = true ↔ x = .driverBusy false := by
  cases x with
  | driverBusy b => cases b <;> simp [applyStimulus, cmdReady, hrst, hw]
  | reset level =>
    cases level with
    | true => exact absurd rfl hx
    | false => simp [applyStimulus, cmdReady, hw, hb]
  | _ => simp [applyStimulus, cmdReady, hrst, hw, hb]

/-- Settles O11: the step of a stalled engine is the next input change, if there is one. -/
theorem busyDriverOnlyDelays : Obligations.BusyDriverOnlyDelays := by
  intro s hrst hw hb
  have hstalled : cmdReady s = false := cmdReady_eq_false.2 (.inr ⟨hw, hb⟩)
  have hstep : step s = .next (takeStimulus s) := by
    rw [step_of_idle (.inr hstalled), awaitInput_of_released hrst]
  refine ⟨hstalled, fun hhead => ⟨_, hstep, ?_⟩⟩
  cases henv : s.env with
  | nil =>
    rw [takeStimulus_nil henv]
    exact ⟨fun _ => rfl, rfl, rfl, fun _ => hstalled, nofun⟩
  | cons x rest =>
    rw [henv, List.head?_cons, ne_eq, Option.some_inj] at hhead
    have hready := cmdReady_applyStimulus_of_stalled (s := { s with env := rest }) hrst hw hb hhead
    obtain ⟨p, w, heq, -⟩ := applyStimulus_of_ne_reset hhead { s with env := rest }
    rw [takeStimulus_cons henv, List.head?_cons, ne_eq, Option.some_inj, ← hready, Bool.not_eq_true]
    exact ⟨fun r => by rw [heq]; exact read_withPorts s p w rest r, by rw [heq], by rw [heq], id, id⟩

/-! ## Reset (R170) -/

/-- Settles O15: by whether `rst` is asserted, and by what the environment does next. -/
theorem resetRestoresEverything : Obligations.ResetRestoresEverything := by
  intro s rest
  refine ⟨fun hrst hidle henv => ?_, fun hrst => ?_, fun hrst henv => ?_, fun hrst henv => ?_⟩
  · rw [step_of_idle (not_taken_of_released hidle), awaitInput_of_released hrst, takeStimulus_cons henv]; rfl
  · exact ⟨cmdReady_eq_false.2 (.inl hrst), by rw [rspValid, hrst]; rfl⟩
  · rw [step_of_idle (.inr (cmdReady_eq_false.2 (.inl hrst))), awaitInput_of_asserted hrst,
      takeStimulus_nil (by rw [resetEngine_env, henv]), resetEngine, henv]
    rfl
  · rw [step_of_idle (.inr (cmdReady_eq_false.2 (.inl hrst))), awaitInput_of_asserted hrst,
      takeStimulus_cons (by rw [resetEngine_env, henv])]
    rfl

/-! ## Command lines of the test bench (R67) -/

theorem core_run_one (M : Host.Core) (x : M.State) : M.run 1 x = M.step x := by
  rw [Host.Core.run]
  cases M.step x <;> rfl

theorem acceptCommand_of_not_waiting {s : State} (h : s.waiting = false) :
    acceptCommand s = { s with rsp := none, ports := { s.ports with cmdValid := false } } := by
  simp [acceptCommand, h]

/-- The word the host presents for a command runs that command. -/
theorem step_of_encoded {s : State} {i : Instr} (hv : s.ports.cmdValid = true) (hword : s.ports.cmdWord = encode i)
    (hrst : s.ports.rst = false) (hw : s.waiting = false) :
    step s = exec i { s with rsp := none, ports := { s.ports with cmdValid := false } } := by
  have hd : decode s.ports.cmdWord = .command i := by rw [hword, decode_encode]
  rw [step_of_command hv (cmdReady_eq_true.2 ⟨hrst, .inl hw⟩) hd, acceptCommand_of_not_waiting hw]

/-- Settles O13: the clock changes, the word is presented, the poll is taken: one step each. -/
theorem runAtLineIsOnePoll : Obligations.RunAtLineIsOnePoll := by
  intro s t rest hrst hv hw henv
  have hclock : step s = .next { atClock t s with env := .command (encode .run) :: rest } :=
    step_of_input hrst hv henv
  have hword : step { atClock t s with env := .command (encode .run) :: rest } =
      .next { s with env := rest, ports := { s.ports with nowUs := t, cmdValid := true, cmdWord := encode .run } } :=
    step_of_input (x := .command (encode .run)) hrst hv rfl
  have hpoll : step { s with env := rest, ports := { s.ports with nowUs := t, cmdValid := true, cmdWord := encode .run } } =
      exec .run { s with rsp := none, env := rest,
                         ports := { s.ports with nowUs := t, cmdValid := false, cmdWord := encode .run } } :=
    step_of_encoded rfl rfl hrst hw
  exact (core_run_next core 2 _ _ hclock).trans
    ((core_run_next core 1 _ _ hword).trans ((core_run_one core _).trans hpoll))

end Sys2Proof.Machine

/-! The invariants of spec/10_state.md R28 and the bounds of the speed law (spec/42_poll.md R105, R107, R110, R114, R115): the
registers a poll leaves, and that every step keeps `Inv`. -/

namespace Sys2Proof.Machine

/-! ## Bounds of the new speed -/

theorem toNat_pos_of_ne_zero {w : Word} (h : w ≠ 0#32) : 1 ≤ w.toNat :=
  Nat.one_le_iff_ne_zero.2 fun h0 => h (BitVec.eq_of_toNat_eq h0)

/-- R103: past the configuration check every limit is at least 1. -/
theorem limits_pos_of_acts {s : State} (h : PollActs s) : 1 ≤ s.vmax.toNat ∧ 1 ≤ s.acc.toNat ∧ 1 ≤ s.dec.toNat := by
  obtain ⟨-, -, -, hu⟩ := h
  obtain ⟨hv, ha, hd⟩ := unconfigured_eq_false.1 hu
  exact ⟨toNat_pos_of_ne_zero hv, toNat_pos_of_ne_zero ha, toNat_pos_of_ne_zero hd⟩

/-- R105: the deceleration branch keeps the floor. -/
theorem floor_le_nextSpeed {s : State} (h : brake s = true) : 1000000 * s.floorFx.toNat ≤ nextSpeed s := by
  rw [nextSpeed_of_brake h, sFloor_eq]; omega

/-- R106: the other branch keeps the clamp. -/
theorem nextSpeed_le_clamp {s : State} (h : brake s = false) : nextSpeed s ≤ 1000000 * s.vmax.toNat := by
  rw [nextSpeed_of_not_brake h, speedClamp_eq]; omega

/-- The clamp is never exceeded from within it, where it is no lower than the floor. -/
theorem nextSpeed_le_clamp_of_le {s : State} (hfloor : s.floorFx.toNat ≤ s.vmax.toNat)
    (hspd : s.spd.toNat ≤ 1000000 * s.vmax.toNat) : nextSpeed s ≤ 1000000 * s.vmax.toNat := by
  cases h : brake s with
  | false => exact nextSpeed_le_clamp h
  | true => rw [nextSpeed_of_brake h, sFloor_eq]; omega

/-- R28 item 2: no branch gives more than the largest clamp, a floor included. -/
theorem nextSpeed_le_max {s : State} (hspd : s.spd.toNat ≤ maxSpeedUnits) : nextSpeed s ≤ maxSpeedUnits := by
  unfold maxSpeedUnits at *
  have hf := s.floorFx.isLt
  have hv := s.vmax.isLt
  cases h : brake s with
  | false => have := nextSpeed_le_clamp h; omega
  | true => rw [nextSpeed_of_brake h, sFloor_eq]; omega

/-- R110: the acceleration branch adds at least the old interval to the speed, as far as the clamp allows. -/
theorem ivl_le_nextSpeed {s : State} (h : PollActs s) (hb : brake s = false) :
    min s.ivl.toNat (1000000 * s.vmax.toNat) ≤ nextSpeed s := by
  obtain ⟨-, hacc, -⟩ := limits_pos_of_acts h
  have hgain : s.ivl.toNat ≤ s.acc.toNat * s.ivl.toNat := Nat.le_mul_of_pos_left _ hacc
  rw [nextSpeed_of_not_brake hb, speedClamp_eq]
  omega

/-- R110: from the invariant an acting poll never stands still. -/
theorem nextSpeed_ge {s : State} (hinv : Inv s) (h : PollActs s) : 15 ≤ nextSpeed s := by
  obtain ⟨hvmax, -, -⟩ := limits_pos_of_acts h
  have hfloor := hinv.floor_pos
  have hivl := hinv.interval_ge
  cases hb : brake s with
  | false => have := ivl_le_nextSpeed h hb; omega
  | true => have := floor_le_nextSpeed hb; omega

/-- R107: the interval of a speed in range is in range. -/
theorem interval_bounds {n : Nat} (hlo : 1 ≤ n) (hhi : n ≤ maxSpeedUnits) :
    15 ≤ Config.bk / n ∧ Config.bk / n ≤ Config.bk := by
  refine ⟨(Nat.le_div_iff_mul_le hlo).2 ?_, Nat.div_le_self _ _⟩
  rw [bk_eq]; unfold maxSpeedUnits at hhi; omega

/-! ## Braking (R104, R105) -/

/-- R104: braking takes a speed of at least the square root of `2 * BK`. -/
theorem two_bk_le_of_brake {s : State} (h : PollActs s) (hb : brake s = true) :
    2 * Config.bk ≤ s.spd.toNat * s.spd.toNat := by
  obtain ⟨-, -, hdec⟩ := limits_pos_of_acts h
  obtain ⟨-, -, hdist, -⟩ := h
  have hsteps : 1 ≤ (distToGo s).natAbs := Int.natAbs_pos.2 hdist
  calc 2 * Config.bk
      ≤ (2 * (distToGo s).natAbs * s.dec.toNat) * Config.bk :=
        Nat.mul_le_mul_right _ (by simpa using Nat.mul_le_mul (Nat.mul_le_mul_left 2 hsteps) hdec)
    _ ≤ s.spd.toNat * s.spd.toNat := brake_eq_true.1 hb

/-- A speed below 362 million units (0.0055 step/s) is too low to brake. -/
theorem brake_eq_false_of_slow {s : State} (h : PollActs s) (hspd : s.spd.toNat ≤ 362000000) : brake s = false := by
  refine Bool.eq_false_of_not_eq_true fun hb => ?_
  have hge := two_bk_le_of_brake h hb
  have hle : s.spd.toNat * s.spd.toNat ≤ 362000000 * 362000000 := Nat.mul_le_mul hspd hspd
  rw [bk_eq] at hge
  omega

/-- Settles O37: twice the decrement times the speed is at most `2 * DEC * BK`, which the predicate bounds by the square of the
speed. -/
theorem brakingNeverSubtractsMoreThanHalf : Obligations.BrakingNeverSubtractsMoreThanHalf := by
  intro s hinv hdist hdec hb
  have hsq := brake_eq_true.1 hb
  have hsteps : 1 ≤ (distToGo s).natAbs := Int.natAbs_pos.2 hdist
  have hpos : s.spd.toNat ≠ 0 := by
    intro h0
    have hprod : 0 < 2 * (distToGo s).natAbs * s.dec.toNat * Config.bk :=
      Nat.mul_pos (Nat.mul_pos (by omega) (toNat_pos_of_ne_zero hdec)) (by decide)
    rw [h0] at hsq
    omega
  have hivl : s.ivl.toNat * s.spd.toNat ≤ Config.bk := by
    rw [hinv.interval_of_speed hpos]; exact Nat.div_mul_le_self _ _
  refine Nat.le_of_mul_le_mul_right ?_ (Nat.pos_of_ne_zero hpos)
  calc 2 * (s.dec.toNat * s.ivl.toNat) * s.spd.toNat
      = 2 * 1 * s.dec.toNat * (s.ivl.toNat * s.spd.toNat) := by ring
    _ ≤ 2 * (distToGo s).natAbs * s.dec.toNat * Config.bk :=
        Nat.mul_le_mul (Nat.mul_le_mul_right _ (Nat.mul_le_mul_left _ hsteps)) hivl
    _ ≤ s.spd.toNat * s.spd.toNat := hsq

/-! ## What an acting poll leaves -/

/-- R100 steps 3 and 4: the speed law writes `SPD` and `IVL`, and a step that follows keeps them. -/
theorem acting_poll_speed {s t : State} (h : PollActs s) (ht : exec .run s = .next t) :
    t.spd.toNat = nextSpeed s ∧ t.ivl = intervalOf (nextSpeed s) := by
  rw [execRun_of_acts h] at ht
  obtain rfl := Host.Outcome.next.inj ht
  split <;> simp

/-- R107, R110: from the invariant the new interval is the quotient of R107 and in range. -/
theorem newInterval_bounds {s : State} (hinv : Inv s) (h : PollActs s) :
    (intervalOf (nextSpeed s)).toNat = Config.bk / nextSpeed s
      ∧ 15 ≤ Config.bk / nextSpeed s ∧ Config.bk / nextSpeed s ≤ Config.bk := by
  have hlo := nextSpeed_ge hinv h
  exact ⟨intervalOf_toNat (by omega), interval_bounds (by omega) (nextSpeed_le_max hinv.speed_le)⟩

/-- Settles O35: the bounds of the new speed, and through them those of its interval. -/
theorem actingPollSpeedAndIntervalBounds : Obligations.ActingPollSpeedAndIntervalBounds := by
  intro s t hinv hacts ht
  obtain ⟨hspd, hivl⟩ := acting_poll_speed hacts ht
  obtain ⟨hquot, hge, hle⟩ := newInterval_bounds hinv hacts
  rw [hspd, hivl, hquot]
  exact ⟨nextSpeed_ge hinv hacts, nextSpeed_le_max hinv.speed_le, rfl, hge, hle⟩

/-- Settles O36: the bounds of the new speed on each branch. -/
theorem speedBoundsOfTheTwoBranches : Obligations.SpeedBoundsOfTheTwoBranches := by
  intro s t hacts ht
  obtain ⟨hspd, -⟩ := acting_poll_speed hacts ht
  rw [hspd]
  exact ⟨nextSpeed_le_clamp, floor_le_nextSpeed, nextSpeed_le_clamp_of_le⟩

/-- A speed that leaves an interval of 2^32 microseconds is below 16 million units. -/
theorem spd_lt_of_long_interval {s : State} (hinv : Inv s) (hlong : 4294967296 ≤ s.ivl.toNat) :
    s.spd.toNat < 16000000 := by
  by_contra! hspd
  rw [hinv.interval_of_speed (by omega), Nat.le_div_iff_mul_le (by omega), bk_eq] at hlong
  omega

/-- Settles O45: so slow a speed does not brake, and one interval of acceleration brings it to 16 million units or the clamp. -/
theorem longIntervalsAreIsolated : Obligations.LongIntervalsAreIsolated := by
  intro s t hinv hacts hvmax hlong ht
  have hslow := spd_lt_of_long_interval hinv hlong
  have hfast := ivl_le_nextSpeed hacts (brake_eq_false_of_slow hacts (by omega))
  obtain ⟨-, hivl⟩ := acting_poll_speed hacts ht
  rw [hivl, intervalOf_toNat (by omega), Nat.div_lt_iff_lt_mul (by omega), bk_eq]
  omega

/-! ## Every step keeps the invariants (R28) -/

/-- The reset values meet the invariants for every legal floor (R4, R30). -/
theorem inv_resetWith {f : Word} (hf : 1 ≤ f.toNat) : Inv (State.resetWith f) := by
  have hlt := f.isLt
  have hbounds : 15 ≤ Config.bk / (1000000 * f.toNat) ∧ Config.bk / (1000000 * f.toNat) ≤ Config.bk :=
    interval_bounds (by omega) (by unfold maxSpeedUnits; omega)
  rw [bk_eq, ← resetWith_ivl_toNat] at hbounds
  exact ⟨hf, Nat.zero_le _, fun h => absurd rfl h, hbounds.1, hbounds.2, nofun, nofun⟩

/-- Settles O58: the default floor is one of the legal ones. -/
theorem resetStateMeetsTheInvariants : Obligations.ResetStateMeetsTheInvariants :=
  ⟨fun _ => inv_resetWith, inv_resetWith (by decide)⟩

/-- R170: a state that is put at its reset values meets them whatever the input levels are. -/
theorem inv_resetEngine {s : State} (hf : 1 ≤ s.floorFx.toNat) : Inv (resetEngine s) := by
  obtain ⟨hfloor, hspd, hquot, hge, hle, -, -⟩ := inv_resetWith hf
  exact ⟨hfloor, hspd, hquot, hge, hle, nofun, fun _ => rfl⟩

/-- What keeps the floor and the interval and keeps or zeroes the speed keeps the invariants of the registers. -/
theorem Inv.of_frame {s t : State} (hinv : Inv s) (hfloor : t.floorFx = s.floorFx) (hivl : t.ivl = s.ivl)
    (hspd : t.spd = s.spd ∨ t.spd = 0#64) (hwait : t.waiting = true → t.ports.drvBusy = true)
    (hheld : t.ports.rst = true → t = resetEngine t) : Inv t := by
  refine ⟨hfloor ▸ hinv.floor_pos, ?_, ?_, hivl ▸ hinv.interval_ge, hivl ▸ hinv.interval_le, hwait, hheld⟩
  · obtain h | h := hspd
    · rw [h]; exact hinv.speed_le
    · rw [h]; exact Nat.zero_le _
  · obtain h | h := hspd
    · rw [h, hivl]; exact hinv.interval_of_speed
    · rw [h]; exact fun h0 => absurd rfl h0

/-- R110: the speed law keeps the invariants of the registers. -/
theorem Inv.of_speedLaw {s t : State} (hinv : Inv s) (hacts : PollActs s) (hfloor : t.floorFx = s.floorFx)
    (hspd : t.spd.toNat = nextSpeed s) (hivl : t.ivl = intervalOf (nextSpeed s))
    (hwait : t.waiting = true → t.ports.drvBusy = true) (hrst : t.ports.rst = false) : Inv t := by
  obtain ⟨hquot, hge, hle⟩ := newInterval_bounds hinv hacts
  rw [← hivl] at hquot
  exact ⟨hfloor ▸ hinv.floor_pos, hspd ▸ nextSpeed_le_max hinv.speed_le, fun _ => hspd ▸ hquot, hquot ▸ hge, hquot ▸ hle, hwait,
    fun h => absurd h (by simp [hrst])⟩

/-- Every command of a released engine keeps the invariants: `RUN` by the speed law, the others because none of them writes
`IVL` and each keeps or zeroes `SPD`. -/
theorem exec_keepsInv {i : Instr} {s t : State} (hinv : Inv s) (hrst : s.ports.rst = false) (h : exec i s = .next t) :
    Inv t := by
  obtain ⟨hports, -, hfloor⟩ := exec_environment h
  have hheld : t.ports.rst = true → t = resetEngine t := fun ht => by rw [hports, hrst] at ht; cases ht
  cases exec_effect h with
  | waits hacts => exact hinv.of_speedLaw hacts rfl (speedLaw_spd_toNat s) rfl hinv.waits_on_driver hrst
  | steps hacts =>
    exact hinv.of_speedLaw hacts hfloor (by simp) (by simp) (by simp) (by rw [hports, hrst])
  | stop | estop | arrived => exact hinv.of_frame rfl rfl (.inr rfl) hinv.waits_on_driver hheld
  | _ => exact hinv.of_frame rfl rfl (.inl rfl) hinv.waits_on_driver hheld

/-- R43: the transfer keeps the invariants: it ends the wait. -/
theorem acceptCommand_keepsInv {s : State} (hinv : Inv s) (hrst : s.ports.rst = false) : Inv (acceptCommand s) :=
  hinv.of_frame rfl rfl (.inl rfl) nofun fun h => absurd h (by simp [hrst])

theorem takeIllegal_keepsInv {s : State} (hinv : Inv s) (hrst : s.ports.rst = false) : Inv (takeIllegal s) :=
  hinv.of_frame rfl rfl (.inl rfl) hinv.waits_on_driver fun h => absurd (h.symm.trans hrst) (by decide)

/-- R42, R170: an input change keeps the invariants: a wait outlives it on a busy driver only, and an engine whose `rst` is
still asserted stays at its reset values. -/
theorem applyStimulus_keepsInv {s : State} (hinv : Inv s) (x : Stimulus) : Inv (applyStimulus x s) := by
  obtain ⟨-, heq⟩ | ⟨p, w, heq, hw, hp⟩ := applyStimulus_cases x s
  · rw [heq]; exact inv_resetEngine hinv.floor_pos
  · rw [heq]
    refine hinv.of_frame rfl rfl (.inl rfl) (fun h => ?_) (fun h => ?_)
    · obtain ⟨hwaits, hkept | hbusy⟩ := hw h
      · exact hkept.trans (hinv.waits_on_driver hwaits)
      · exact hbusy
    · have hheld := hinv.held_in_reset (hp h)
      have hidle : w = false := Bool.eq_false_of_not_eq_true fun h' => by
        have hwaits := (hw h').1
        rw [hheld] at hwaits
        cases hwaits
      subst hidle
      rw [hheld]; rfl

theorem takeStimulus_keepsInv {s : State} (hinv : Inv s) : Inv (takeStimulus s) := by
  cases henv : s.env with
  | nil => rw [takeStimulus_nil henv]; exact hinv
  | cons x rest =>
    have hrest : Inv { s with env := rest } :=
      hinv.of_frame rfl rfl (.inl rfl) hinv.waits_on_driver fun h => by rw [hinv.held_in_reset h]; rfl
    rw [takeStimulus_cons henv]
    exact applyStimulus_keepsInv hrest x

theorem awaitInput_keepsInv {s : State} (hinv : Inv s) : Inv (awaitInput s) := by
  unfold awaitInput
  split
  · exact takeStimulus_keepsInv (inv_resetEngine hinv.floor_pos)
  · exact takeStimulus_keepsInv hinv

/-- Settles O59: a step takes a command, which a ready engine is released for, or lets the environment move on. -/
theorem stepKeepsTheInvariants : Obligations.StepKeepsTheInvariants := by
  intro s t hinv h
  obtain ⟨⟨-, hready⟩, hrun⟩ | ⟨-, rfl⟩ := step_cases h
  · obtain ⟨hrst, -⟩ := cmdReady_eq_true.1 hready
    have haccept := acceptCommand_keepsInv hinv hrst
    obtain ⟨i, -, hexec⟩ | ⟨op, -, rfl⟩ := hrun
    · exact exec_keepsInv haccept hrst hexec
    · exact takeIllegal_keepsInv haccept hrst
  · exact awaitInput_keepsInv hinv

end Sys2Proof.Machine

/-! Single polls and sequences of polls (spec/42_poll.md R100, R108-R114). -/

namespace Sys2Proof.Machine

/-! ## The time gate (R108) -/

/-- Settles O39: the elapsed time is a difference modulo 2^32, in which the older sample cancels. -/
theorem elapsedTimeIsExactAcrossOneWrap : Obligations.ElapsedTimeIsExactAcrossOneWrap := by
  intro lst dt hdt
  have hl := lst.isLt
  rw [elapsed_eq, BitVec.toNat_ofNat]
  omega

/-! ## The branches of a poll (R100) -/

/-- Settles O32: an arrival. -/
theorem arrivalPollClearsMovAndSpeed : Obligations.ArrivalPollClearsMovAndSpeed :=
  fun _ he hm htgt => exec_run_of_arrived he hm (distToGo_eq_zero.2 htgt)

theorem distToGo_ne_zero {s : State} : distToGo s ≠ 0 ↔ s.tgt ≠ s.pos := distToGo_eq_zero.not

/-- Settles O33: the poll is refused by its configuration check. -/
theorem unconfiguredPollFaults : Obligations.UnconfiguredPollFaults :=
  fun _ he hm htgt hlimit => exec_run_of_unconfigured he hm (distToGo_ne_zero.2 htgt) (unconfigured_eq_true.2 hlimit)

/-- R104 in the terms of the registers. -/
theorem brake_iff {s : State} : brake s = true ↔
    65536000000000000 * (2 * (s.tgt.toInt - s.pos.toInt).natAbs * s.dec.toNat) ≤ s.spd.toNat ^ 2 := by
  rw [brake_eq_true, distToGo_eq_toInt, Nat.mul_comm _ Config.bk, bk_eq, Nat.pow_two]

/-- R104-R106 in the terms of the registers: the new speed of either branch. -/
theorem nextSpeed_eq (s : State) :
    nextSpeed s =
      if 65536000000000000 * (2 * (s.tgt.toInt - s.pos.toInt).natAbs * s.dec.toNat) ≤ s.spd.toNat ^ 2
      then max (s.spd.toNat - s.dec.toNat * s.ivl.toNat) (1000000 * s.floorFx.toNat)
      else min (s.spd.toNat + s.acc.toNat * s.ivl.toNat) (1000000 * s.vmax.toNat) := by
  rw [if_congr brake_iff.symm rfl rfl]
  split
  next h => rw [nextSpeed_of_brake h, sFloor_eq, Nat.mul_comm 1000000]
  next h => rw [nextSpeed_of_not_brake (Bool.eq_false_of_not_eq_true h), speedClamp_eq, Nat.mul_comm 1000000]

theorem intervalOf_eq {n : Nat} (h : 1 ≤ n) : intervalOf n = BitVec.ofNat 64 (65536000000000000 / n) := by
  rw [intervalOf, if_neg (by omega), bk_eq]

/-- Settles O34: the speed law by `nextSpeed_eq`, the gate by `elapsed_eq`, the step by `takeStep_eq`. -/
theorem actingPollResult : Obligations.ActingPollResult := by
  intro s he hm htgt hv ha hd d s1 i1 b hs1
  have hacts : PollActs s := ⟨he, hm, distToGo_ne_zero.2 htgt, unconfigured_eq_false.2 ⟨hv, ha, hd⟩⟩
  have hspeed : nextSpeed s = s1 := nextSpeed_eq s
  have hival : intervalOf s1 = BitVec.ofNat 64 i1 := intervalOf_eq hs1
  have hinat : (intervalOf s1).toNat = i1 := by rw [intervalOf_toNat (by omega), bk_eq]
  have hdist : distToGo s = d := distToGo_eq_toInt s
  have hdir : (s.dir = decide (0 < d)) = (b = s.dir) := propext eq_comm
  rw [execRun_of_acts hacts, takeStep_eq, distToGo_speedLaw, speedLaw_eq, hspeed, hinat, hival, hdist, elapsed_eq]
  simp only [hdir, b, decide_eq_true_eq]

/-- R109: a step takes one unit, with its sign, from the distance to go. -/
theorem distToGo_takeStep (now : Word) {s : State} (h : distToGo s ≠ 0) :
    distToGo (takeStep now s) = distToGo s - (if 0 < distToGo s then 1 else -1) := by
  have hpos := takeStep_pos now s h
  rw [distToGo, hpos, takeStep_tgt]
  exact (Int.sub_sub _ _ _).symm

/-- R114: so it leaves one unit less to go. -/
theorem natAbs_distToGo_takeStep (now : Word) {s : State} (h : distToGo s ≠ 0) :
    (distToGo (takeStep now s)).natAbs + 1 = (distToGo s).natAbs := by
  rw [distToGo_takeStep now h]
  split <;> omega

/-- Settles O38: a poll with a distance to go leaves the position alone, or it takes one step. -/
theorem pollStepsExactlyWithItsPulse : Obligations.PollStepsExactlyWithItsPulse := by
  intro s t hdist h
  obtain ⟨-, rfl⟩ | ⟨⟨-, -, hd⟩, -⟩ | ⟨-, rfl⟩ | ⟨-, -, rfl⟩ | ⟨-, -, rfl⟩ := execRun_cases h
  · exact .inl ⟨rfl, rfl, rfl, rfl, rfl, rfl⟩
  · exact absurd hd hdist
  · exact .inl ⟨rfl, rfl, rfl, rfl, rfl, rfl⟩
  · exact .inl ⟨rfl, rfl, rfl, rfl, rfl, rfl⟩
  · have hpos := takeStep_pos s.ports.nowUs (speedLaw s) hdist
    have hdir : (takeStep s.ports.nowUs (speedLaw s)).dir = decide (0 < distToGo s) := takeStep_dir _ _
    rw [s32_eq_toInt, s32_eq_toInt] at hpos
    refine .inr ⟨?_, ?_, by rw [hdir, decide_eq_true_eq], natAbs_distToGo_takeStep _ (s := speedLaw s) hdist,
      takeStep_lst _ _, takeStep_tgt _ _, takeStep_mov _ _⟩
    · rw [hdir]
      exact (takeStep_evt _ _).trans (congrArg _ (if_congr eq_comm rfl rfl))
    · rw [hdir]
      exact hpos.trans (congrArg _ (if_congr decide_eq_true_iff.symm rfl rfl))

/-! ## Inputs that a command does not read (R45, R47) -/

/-- The same engine with other levels on its input ports (R42). -/
def State.withPorts (p : Ports) (s : State) : State := { s with ports := p }

theorem startMoveTo_withPorts (n : Int) (s : State) (p : Ports) :
    startMoveTo n (s.withPorts p) = (startMoveTo n s).withPorts p := by
  unfold startMoveTo; split <;> rfl

theorem rotateBySteps_withPorts {n n' : Int} (hn : n' = n) (s : State) (p : Ports) :
    rotateBySteps n' (s.withPorts p) = (rotateBySteps n s).withPorts p := by
  subst hn
  unfold rotateBySteps
  split
  · exact startMoveTo_withPorts _ s p
  · rfl

/-- R108, R46: of the input ports an acting poll reads the clock and the driver's level, any other poll none. -/
theorem exec_run_withPorts {s t : State} {p : Ports}
    (hp : PollActs s → p.nowUs = s.ports.nowUs ∧ p.drvBusy = s.ports.drvBusy) (h : exec .run s = .next t) :
    exec .run (s.withPorts p) = .next (t.withPorts p) := by
  obtain ⟨hgate, rfl⟩ | ⟨⟨he, hm, hd⟩, rfl⟩ | ⟨⟨he, hm, hd, hu⟩, rfl⟩ | ⟨hacts, hearly, rfl⟩ | ⟨hacts, hdue, rfl⟩ :=
    execRun_cases h
  · exact exec_run_of_gated hgate
  · exact exec_run_of_arrived he hm hd
  · exact exec_run_of_unconfigured he hm hd hu
  · obtain ⟨hclock, -⟩ := hp hacts
    rw [← hclock] at hearly
    exact (execRun_of_acts (s := s.withPorts p) hacts).trans (congrArg _ (if_neg hearly))
  · obtain ⟨hclock, hdrv⟩ := hp hacts
    rw [← hclock] at hdue ⊢
    have hstep : takeStep p.nowUs (speedLaw (s.withPorts p)) = (takeStep p.nowUs (speedLaw s)).withPorts p := by
      rw [takeStep_eq, takeStep_eq, speedLaw_ports s, ← hdrv]; rfl
    exact (execRun_of_acts (s := s.withPorts p) hacts).trans (congrArg _ ((if_pos hdue).trans hstep))

/-- R45, R47: a command does the same under other levels on the ports it does not read: the geometry is read by the rotations,
the clock and the driver's level by an acting poll. -/
theorem exec_withPorts {i : Instr} {s t : State} {p : Ports}
    (hrun : i = .run → PollActs s → p.nowUs = s.ports.nowUs ∧ p.drvBusy = s.ports.drvBusy)
    (hgeom : mnemonicOf i = .rotateDeg ∨ mnemonicOf i = .rotateRev → p.spr = s.ports.spr ∧ p.gear = s.ports.gear)
    (h : exec i s = .next t) : exec i (s.withPorts p) = .next (t.withPorts p) := by
  cases i with
  | setMaxSpeed v | setAccel v | setDecel v =>
    cases h; exact Eq.symm (congrArg Host.Outcome.next (apply_ite (State.withPorts p) (v = 0#32) _ _))
  | enable | disable | moveTo q | stop | estop | setHome | goHome => cases h; rfl
  | isRunning | getDist | getPos | getSpeed | getStatus => cases h; rfl
  | moveRel d => cases h; exact congrArg _ (startMoveTo_withPorts _ s p)
  | rotateDeg d =>
    obtain ⟨hspr, hgear⟩ := hgeom (.inl rfl)
    cases h
    exact congrArg _ (rotateBySteps_withPorts (congrArg₂ (degreeSteps d) hspr hgear) s p)
  | rotateRev d =>
    obtain ⟨hspr, hgear⟩ := hgeom (.inr rfl)
    cases h
    exact congrArg _ (rotateBySteps_withPorts (congrArg₂ (revolutionSteps d) hspr hgear) s p)
  | run => exact exec_run_withPorts (hrun rfl) h

/-- Settles O40: another clock sample differs on a port that only an acting poll reads. -/
theorem clockMattersOnlyToActingPolls : Obligations.ClockMattersOnlyToActingPolls := by
  intro i s t now hi h
  obtain ⟨hports, -, -⟩ := exec_environment h
  have hsame := exec_withPorts (p := { s.ports with nowUs := now }) (fun hrun hacts => absurd hacts (hi hrun))
    (fun _ => ⟨rfl, rfl⟩) h
  unfold atClock
  rw [hports]
  exact hsame

/-- Settles O41: other geometry inputs differ on ports that only the rotations read. -/
theorem geometryMattersOnlyToRotations : Obligations.GeometryMattersOnlyToRotations := by
  intro i s t spr gear hdeg hrev h
  obtain ⟨hports, -, -⟩ := exec_environment h
  have hsame := exec_withPorts (p := { s.ports with spr := spr, gear := gear }) (fun _ _ => ⟨rfl, rfl⟩)
    (fun hrot => absurd hrot (not_or.2 ⟨hdeg, hrev⟩)) h
  rw [hports]
  exact hsame

/-! ## Sequences of polls -/

theorem afterPolls_cons {now : Word} {ts : List Word} {s t : State} (h : exec .run (atClock now s) = .next t) :
    afterPolls (now :: ts) s = afterPolls ts t := by
  rw [afterPolls, h]

/-- What every poll keeps, whatever the clock shows, holds after every sequence of polls. -/
theorem afterPolls_keeps {P : State → Prop}
    (hpoll : ∀ (s t : State) (now : Word), P s → exec .run (atClock now s) = .next t → P t) (samples : List Word) :
    ∀ s, P s → P (afterPolls samples s) := by
  induction samples with
  | nil => exact fun _ => id
  | cons now ts ih =>
    intro s hs
    obtain ⟨t, ht⟩ := exec_total .run (atClock now s)
    rw [afterPolls_cons ht]
    exact ih t (hpoll s t now hs ht)

/-! ### An engine that is not running (R111) -/

theorem moveInProgress_eq_true {s : State} : moveInProgress s = true ↔ s.mov = true ∧ distToGo s ≠ 0 := by
  simp [moveInProgress]

/-- R101, R102, R111: a poll of an engine that is not running returns at its gate or arrives. -/
theorem exec_run_of_not_running {s t : State} (hs : moveInProgress s = false) (h : exec .run s = .next t) :
    t = s ∨ t = arrive s := by
  have hstill : s.mov = true → distToGo s ≠ 0 → False := fun hm hd => by
    rw [moveInProgress_eq_true.2 ⟨hm, hd⟩] at hs; cases hs
  obtain ⟨-, rfl⟩ | ⟨-, rfl⟩ | ⟨⟨-, hm, hd, -⟩, -⟩ | ⟨⟨-, hm, hd, -⟩, -⟩ | ⟨⟨-, hm, hd, -⟩, -⟩ := execRun_cases h
  · exact .inl rfl
  · exact .inr rfl
  · exact (hstill hm hd).elim
  · exact (hstill hm hd).elim
  · exact (hstill hm hd).elim

/-- R111: `t` is at rest, and as `s` in all that a sequence of polls must not change. -/
structure RestsAs (s t : State) : Prop where
  idle : moveInProgress t = false
  evt : t.evt = s.evt
  spd : t.spd = s.spd ∨ t.spd = 0#64
  regs : ∀ r : Reg, r ≠ .MOV → r ≠ .SPD → t.read r = s.read r

theorem read_atClock (now : Word) (s : State) (r : Reg) : (atClock now s).read r = s.read r := by
  cases r <;> rfl

theorem read_arrive {r : Reg} (hm : r ≠ .MOV) (hs : r ≠ .SPD) (s : State) : (arrive s).read r = s.read r := by
  cases r with
  | MOV => exact absurd rfl hm
  | SPD => exact absurd rfl hs
  | _ => rfl

theorem RestsAs.poll {s t u : State} {now : Word} (hrest : RestsAs s t) (h : exec .run (atClock now t) = .next u) :
    RestsAs s u := by
  obtain ⟨hidle, hevt, hspd, hregs⟩ := hrest
  obtain rfl | rfl := exec_run_of_not_running (s := atClock now t) hidle h
  · exact ⟨hidle, hevt, hspd, fun r hm hs => (read_atClock now t r).trans (hregs r hm hs)⟩
  · exact ⟨rfl, hevt, .inr rfl, fun r hm hs => (read_arrive hm hs _).trans ((read_atClock now t r).trans (hregs r hm hs))⟩

/-- Settles O42: every poll keeps `RestsAs`. -/
theorem noPollMovesAnEngineThatIsNotRunning : Obligations.NoPollMovesAnEngineThatIsNotRunning := by
  intro samples s hs
  obtain ⟨hidle, hevt, hspd, hregs⟩ := afterPolls_keeps (P := RestsAs s) (fun _ _ _ => RestsAs.poll) samples s
    ⟨hs, rfl, .inl rfl, fun _ _ _ => rfl⟩
  exact ⟨hidle, hevt, hspd, hregs⟩

/-! ### A maximum speed too low to step (R114, R180) -/

/-- R114: a move that creeps at a maximum speed of at most 15: as the move of `s` in all that polls must not change. -/
structure CreepsAs (s t : State) : Prop where
  inv : Inv t
  acts : PollActs t
  vmax_le : t.vmax.toNat ≤ 15
  spd_le : t.spd.toNat ≤ 1000000 * t.vmax.toNat
  pos : t.pos = s.pos
  tgt : t.tgt = s.tgt
  evt : t.evt = s.evt
  flt : t.flt = s.flt
  lst : t.lst = s.lst

/-- Two samples of the clock are less than 2^32 microseconds apart, and at 15 raw units the interval is longer. -/
theorem not_due_of_slow (now lst : Word) {n : Nat} (hpos : 1 ≤ n) (hslow : n ≤ 15000000) :
    ¬ (intervalOf n).toNat ≤ elapsed now lst := by
  have hlong : 4294967296 ≤ (intervalOf n).toNat := by
    rw [intervalOf_toNat (by omega), Nat.le_div_iff_mul_le hpos, bk_eq]; omega
  have hlt := elapsed_lt now lst
  omega

/-- The clock input plays no part in the invariants. -/
theorem atClock_keepsInv {s : State} (hinv : Inv s) (now : Word) : Inv (atClock now s) :=
  hinv.of_frame rfl rfl (.inl rfl) hinv.waits_on_driver fun h => by rw [hinv.held_in_reset h]; rfl

/-- R170: an engine that acts is not held in reset. -/
theorem released_of_acts {s : State} (hinv : Inv s) (hacts : PollActs s) : s.ports.rst = false := by
  refine Bool.eq_false_of_not_eq_true fun h => ?_
  obtain ⟨hen, -, -, -⟩ := hacts
  rw [hinv.held_in_reset h] at hen
  cases hen

/-- A poll of a creeping move runs the speed law only: too slow to brake, it stays within the clamp, and its step is not due. -/
theorem CreepsAs.poll {s t u : State} {now : Word} (hcreep : CreepsAs s t) (h : exec .run (atClock now t) = .next u) :
    CreepsAs s u := by
  obtain ⟨hinv, hacts, hvmax, hspd, hpos, htgt, hevt, hflt, hlst⟩ := hcreep
  have hslow : nextSpeed t ≤ 1000000 * t.vmax.toNat := nextSpeed_le_clamp (brake_eq_false_of_slow hacts (by omega))
  have hlo := nextSpeed_ge hinv hacts
  have hearly : ¬ (intervalOf (nextSpeed t)).toNat ≤ elapsed now t.lst := not_due_of_slow now t.lst (by omega) (by omega)
  have hclock : Inv (atClock now t) := atClock_keepsInv hinv now
  have hu : exec .run (atClock now t) = .next (speedLaw (atClock now t)) :=
    (execRun_of_acts (s := atClock now t) hacts).trans (congrArg _ (if_neg hearly))
  obtain rfl := Host.Outcome.next.inj (hu.symm.trans h)
  exact ⟨exec_keepsInv hclock (released_of_acts hclock hacts) hu, hacts, hvmax,
    (speedLaw_spd_toNat (atClock now t)).le.trans hslow, hpos, htgt, hevt, hflt, hlst⟩

/-- Settles O44: every poll keeps `CreepsAs`, which holds a move in progress. -/
theorem tinyMaximumSpeedNeverSteps : Obligations.TinyMaximumSpeedNeverSteps := by
  intro samples s hinv hacts hvmax hspd
  obtain ⟨-, ⟨-, hmov, hdist, -⟩, -, -, hpos, htgt, hevt, hflt, hlst⟩ :=
    afterPolls_keeps (P := CreepsAs s) (fun _ _ _ => CreepsAs.poll) samples s
      ⟨hinv, hacts, hvmax, hspd, rfl, rfl, rfl, rfl, rfl⟩
  exact ⟨hpos, htgt, hevt, hflt, hlst, hmov, moveInProgress_eq_true.2 ⟨hmov, hdist⟩⟩

/-! ### A move whose polls are all due (R114) -/

/-- R108: the step of a poll with this clock sample is due. -/
def Due (now : Word) (s : State) : Prop :=
  (intervalOf (nextSpeed (atClock now s))).toNat ≤ elapsed now (atClock now s).lst

/-- Each poll of the sequence finds its step due. -/
def AllDue (samples : List Word) (s : State) : Prop :=
  ∀ (k : Nat) (now : Word), samples[k]? = some now → Due now (afterPolls (samples.take k) s)

/-- R100: what a due poll makes of a state. -/
def polledAt (now : Word) (s : State) : State := takeStep now (speedLaw (atClock now s))

theorem exec_run_of_due {s : State} {now : Word} (hacts : PollActs s) (hdue : Due now s) :
    exec .run (atClock now s) = .next (polledAt now s) :=
  (execRun_of_acts (s := atClock now s) hacts).trans (congrArg _ (if_pos hdue))

/-- The first poll of a sequence is due, and so are those that follow it. -/
theorem allDue_cons {now : Word} {ts : List Word} {s : State} (hacts : PollActs s) (h : AllDue (now :: ts) s) :
    Due now s ∧ AllDue ts (polledAt now s) := by
  have hdue : Due now s := h 0 now rfl
  refine ⟨hdue, fun k t hk => ?_⟩
  have hnext := h (k + 1) t hk
  rwa [List.take_succ_cons, afterPolls_cons (exec_run_of_due hacts hdue)] at hnext

/-- R100: an engine under way: enabled, moving and configured, with any distance to go. -/
structure UnderWay (s : State) : Prop where
  en : s.en = true
  mov : s.mov = true
  configured : unconfigured s = false

theorem UnderWay.acts {s : State} (h : UnderWay s) (hdist : distToGo s ≠ 0) : PollActs s :=
  ⟨h.en, h.mov, hdist, h.configured⟩

theorem polledAt_underWay {s : State} (now : Word) (h : UnderWay s) : UnderWay (polledAt now s) := by
  obtain ⟨he, hm, hu⟩ := h
  exact ⟨by simpa [polledAt] using he, by simpa [polledAt] using hm, by simpa [polledAt, unconfigured] using hu⟩

theorem distToGo_polledAt {s : State} (now : Word) (h : distToGo s ≠ 0) :
    distToGo (polledAt now s) = distToGo s - (if 0 < distToGo s then 1 else -1) :=
  distToGo_takeStep now (s := speedLaw (atClock now s)) h

theorem natAbs_distToGo_polledAt {s : State} (now : Word) (h : distToGo s ≠ 0) :
    (distToGo (polledAt now s)).natAbs + 1 = (distToGo s).natAbs :=
  natAbs_distToGo_takeStep now (s := speedLaw (atClock now s)) h

/-- A due poll turns the engine toward its target and emits the pulse. -/
theorem polledAt_dir (now : Word) (s : State) : (polledAt now s).dir = decide (0 < distToGo s) := takeStep_dir _ _

theorem polledAt_tgt (now : Word) (s : State) : (polledAt now s).tgt = s.tgt := takeStep_tgt _ _

theorem polledAt_evt (now : Word) (s : State) :
    (polledAt now s).evt = s.evt ++ (if s.dir = decide (0 < distToGo s) then [] else [.setDir (decide (0 < distToGo s))])
      ++ [.pulse] := by
  have hevt : (polledAt now s).evt = s.evt ++
      (if s.dir = decide (0 < distToGo s) then [.pulse] else [.setDir (decide (0 < distToGo s)), .pulse]) :=
    takeStep_evt _ _
  rw [hevt]
  by_cases hd : s.dir = decide (0 < distToGo s)
  · rw [if_pos hd, if_pos hd, List.append_nil]
  · rw [if_neg hd, if_neg hd, List.append_assoc]; rfl

/-- R109: `DIR` shows the side on which the rest of the move lies. -/
def Faces (s : State) : Prop := distToGo s ≠ 0 → s.dir = decide (0 < distToGo s)

/-- After a due poll the engine faces its target: the step does not pass it. -/
theorem polledAt_faces {s : State} (now : Word) (h : distToGo s ≠ 0) : Faces (polledAt now s) := by
  intro hrest
  rw [distToGo_polledAt now h] at hrest ⊢
  rw [polledAt_dir, decide_eq_decide]
  split <;> split at hrest <;> omega

/-- R114: facing its target, an engine whose polls are all due takes one pulse each until it is there. -/
theorem afterPolls_of_faces {samples : List Word} :
    ∀ {s : State}, UnderWay s → Faces s → samples.length = (distToGo s).natAbs → AllDue samples s →
      UnderWay (afterPolls samples s) ∧ distToGo (afterPolls samples s) = 0 ∧ (afterPolls samples s).tgt = s.tgt
      ∧ (afterPolls samples s).dir = s.dir
      ∧ (afterPolls samples s).evt = s.evt ++ List.replicate samples.length .pulse := by
  induction samples with
  | nil => exact fun hway _ hlen _ => ⟨hway, Int.natAbs_eq_zero.1 hlen.symm, rfl, rfl, (List.append_nil _).symm⟩
  | cons now ts ih =>
    intro s hway hfaces hlen hall
    rw [List.length_cons] at hlen
    have hdist : distToGo s ≠ 0 := by omega
    have hacts := hway.acts hdist
    obtain ⟨hdue, hrest⟩ := allDue_cons hacts hall
    have hleft : ts.length = (distToGo (polledAt now s)).natAbs := by
      have hstep := natAbs_distToGo_polledAt now hdist
      omega
    obtain ⟨hway', hdist', htgt, hdir, hevt⟩ := ih (polledAt_underWay now hway) (polledAt_faces now hdist) hleft hrest
    rw [afterPolls_cons (exec_run_of_due hacts hdue)]
    refine ⟨hway', hdist', htgt.trans (polledAt_tgt now s), ?_, ?_⟩
    · rw [hdir, polledAt_dir, hfaces hdist]
    · rw [hevt, polledAt_evt, if_pos (hfaces hdist), List.append_nil, List.append_assoc, List.length_cons,
        List.replicate_succ]
      rfl

/-- Settles O43: the first poll turns the engine where it must, the others only pulse, and the next one arrives. -/
theorem duePollsReachTheTargetExactly : Obligations.DuePollsReachTheTargetExactly := by
  intro samples s hacts hlen hall
  have ⟨he, hm, hdist, hu⟩ := hacts
  cases samples with
  | nil => exact absurd (Int.natAbs_eq_zero.1 hlen.symm) hdist
  | cons now ts =>
    obtain ⟨hdue, hrest⟩ := allDue_cons hacts hall
    rw [List.length_cons] at hlen
    have hleft : ts.length = (distToGo (polledAt now s)).natAbs := by
      have hstep := natAbs_distToGo_polledAt now hdist
      omega
    obtain ⟨⟨hen, hmov, -⟩, harrived, htgt, hdir, hevt⟩ :=
      afterPolls_of_faces (polledAt_underWay now ⟨he, hm, hu⟩) (polledAt_faces now hdist) hleft hrest
    rw [polledAt_tgt] at htgt
    rw [afterPolls_cons (exec_run_of_due hacts hdue)]
    refine ⟨(distToGo_eq_zero.1 harrived).symm.trans htgt, htgt, hmov, hdir.trans (polledAt_dir now s), ?_, fun t => ?_⟩
    · rw [hevt, polledAt_evt, ← hlen, List.replicate_succ, List.append_assoc _ [Event.pulse]]
      rfl
    · exact exec_run_of_arrived hen hmov harrived

end Sys2Proof.Machine

/-! The command words and the assembler (spec/30_encoding.md R61-R67). -/

namespace Sys2Proof

/-! ## The opcode table (R63) -/

/-- The table row of a mnemonic, from its format and its opcode. -/
def rowOf (m : Mnemonic) : TableRow := ⟨m, m.format, opcodeOf m ++ 0#32, 0xFF00000000#40⟩

/-- The printed table holds the row of each mnemonic and nothing else. -/
theorem opcodeTable_eq : opcodeTable = Machine.allMnemonics.map rowOf := by decide

theorem mem_opcodeTable {r : TableRow} : r ∈ opcodeTable ↔ ∃ m, rowOf m = r := by
  simp [opcodeTable_eq, Machine.mem_allMnemonics]

/-- R63: a row is selected by the opcode alone. -/
theorem rowOf_selects (m : Mnemonic) (w : CmdWord) :
    w &&& (rowOf m).mask = (rowOf m).pattern ↔ opcodeOf m = opcodeField w := by
  have hmask : w &&& 0xFF00000000#40 = opcodeField w ++ 0#32 := by
    rw [← Laws.mask_of_append _ (operandField w), opcodeField_append_operandField]
  have hrow : (w &&& (rowOf m).mask = (rowOf m).pattern) = (opcodeField w ++ 0#32 = opcodeOf m ++ 0#32) :=
    congrArg (· = opcodeOf m ++ 0#32) hmask
  rw [hrow]
  constructor
  · intro h
    rw [← opcodeField_append (opcodeOf m) 0#32, ← h, opcodeField_append]
  · intro h
    rw [h]

/-- R63: no opcode stands for two mnemonics: the decoder tells them apart. -/
theorem opcodeOf_injective {m n : Mnemonic} (h : opcodeOf m = opcodeOf n) : m = n := by
  have hcmd : commandOf m 0#32 = commandOf n 0#32 :=
    Decoded.command.inj (by rw [← decodeFields_opcodeOf, ← decodeFields_opcodeOf, h])
  rw [← mnemonicOf_commandOf m 0#32, hcmd, mnemonicOf_commandOf]

/-- Settles O2: rows are `rowOf` a mnemonic, and selecting one is having its opcode. -/
theorem decodeFollowsMatchAndMask : Obligations.DecodeFollowsMatchAndMask := by
  refine fun w => ⟨fun r hr hsel => ?_, fun hnone => ?_, fun r₁ hr₁ r₂ hr₂ hsel₁ hsel₂ => ?_⟩
  · obtain ⟨m, rfl⟩ := mem_opcodeTable.1 hr
    exact ⟨_, decode_of_opcodeField ((rowOf_selects m w).1 hsel), mnemonicOf_commandOf m _, rfl⟩
  · exact ⟨_, decode_of_unassigned fun m hm => hnone _ (mem_opcodeTable.2 ⟨m, rfl⟩) ((rowOf_selects m w).2 hm)⟩
  · obtain ⟨m₁, rfl⟩ := mem_opcodeTable.1 hr₁
    obtain ⟨m₂, rfl⟩ := mem_opcodeTable.1 hr₂
    have hop := ((rowOf_selects m₁ w).1 hsel₁).trans ((rowOf_selects m₂ w).1 hsel₂).symm
    rw [opcodeOf_injective hop]

/-! ## Operand bits (R65) -/

/-- R65: formats N and Q ignore the operand. -/
theorem commandOf_of_ignored {m : Mnemonic} (h : m.format = .N ∨ m.format = .Q) (k k' : Word) :
    commandOf m k = commandOf m k' := by
  cases m with
  | setMaxSpeed | setAccel | setDecel | moveTo | moveRel | rotateDeg | rotateRev => exact h.elim nofun nofun
  | _ => rfl

/-- Settles O3: the command of a word drops its operand, or holds it whole. -/
theorem operandBitsIgnoredOrSignificant : Obligations.OperandBitsIgnoredOrSignificant := by
  intro m k k'
  rw [decode_append, decode_append]
  refine ⟨fun h => congrArg _ (commandOf_of_ignored h k k'), fun hN hQ hne heq => hne ?_⟩
  rw [← operandOf_commandOf k hN hQ, Decoded.command.inj heq, operandOf_commandOf k' hN hQ]

/-- Settles O4: the decoder evaluates on each word. -/
theorem vectorWordsDecode : Obligations.VectorWordsDecode := by
  unfold Obligations.VectorWordsDecode
  decide

/-! ## `fx()` operands (R67) -/

/-- R61: the integers of each format that reads its operand. -/
theorem inRange_iff {f : Format} {v : Int} : f.inRange v = true ↔
    f = .U ∧ 0 ≤ v ∧ v ≤ 4294967295 ∨ (f = .I ∨ f = .S) ∧ -2147483648 ≤ v ∧ v ≤ 2147483647 := by
  cases f with
  | N | Q => simp [Format.inRange]
  | U => simp [Format.inRange]; omega
  | I | S => simp [Format.inRange]

/-- R67: an `fx()` line assembles exactly where the scaled real is an integer of the format, which is then the operand. -/
theorem assemble_fx_eq_some {m : Mnemonic} {n : Int} {d : Nat} {w : CmdWord} :
    assemble ⟨m, .fx n d⟩ = some w ↔
      ∃ v : Int, v * (10 : Int) ^ d = n * 65536 ∧ m.format.inRange v = true ∧ opcodeOf m ++ BitVec.ofInt 32 v = w := by
  have hscale : (10 : Int) ^ d ≠ 0 := pow_ne_zero d (by decide)
  have hfits : Line.wellFormed ⟨m, .fx n d⟩ = true ↔
      (10 : Int) ^ d ∣ n * 65536 ∧ m.format.inRange (n * 65536 / (10 : Int) ^ d) = true := by
    rw [Line.wellFormed, Operand.fits, Bool.and_eq_true, decide_eq_true_eq, Int.dvd_iff_emod_eq_zero]
  unfold assemble
  constructor
  · intro h
    split at h
    next hwf =>
      obtain ⟨hdvd, hrange⟩ := hfits.1 hwf
      exact ⟨_, Int.ediv_mul_cancel hdvd, hrange, Option.some.inj h⟩
    next => cases h
  · rintro ⟨v, hv, hrange, rfl⟩
    have hquot : n * 65536 / (10 : Int) ^ d = v := by rw [← hv, Int.mul_ediv_cancel _ hscale]
    rw [if_pos (hfits.2 ⟨⟨v, by rw [← hv, Int.mul_comm]⟩, by rwa [hquot]⟩), wordOf, operandPattern, hquot]

/-- R62: an operand in the range of its format is read back as the integer it stands for. -/
theorem ofInt_reads_back {f : Format} {v : Int} (h : f.inRange v = true) :
    (f = .U → ((BitVec.ofInt 32 v).toNat : Int) = v) ∧ (f ≠ .U → (BitVec.ofInt 32 v).toInt = v) := by
  obtain ⟨hf, hlo, hhi⟩ | ⟨hf, hlo, hhi⟩ := inRange_iff.1 h
  · refine ⟨fun _ => ?_, fun hne => absurd hf hne⟩
    rw [BitVec.toNat_ofInt]; omega
  · refine ⟨fun hU => ?_, fun _ => ?_⟩
    · subst hU; exact hf.elim nofun nofun
    · rw [← Machine.s32_eq_toInt]; exact Machine.s32_u32 hlo hhi

/-- Settles O5: both halves are `assemble_fx_eq_some`, the ranges by `inRange_iff`. -/
theorem fxOperandsAreExact : Obligations.FxOperandsAreExact := by
  refine ⟨fun m n d w h => ?_, fun m n d v hv hrange => ?_⟩
  · obtain ⟨v, hv, hrange, rfl⟩ := assemble_fx_eq_some.1 h
    rw [opcodeField_append, operandField_append]
    exact ⟨rfl, v, hv, ofInt_reads_back hrange⟩
  · exact assemble_fx_eq_some.2 ⟨v, hv, inRange_iff.2 hrange, rfl⟩

end Sys2Proof

/-! What each command answers, as the next state written out (spec/40, 41, 43 and 44). -/

namespace Sys2Proof.Machine

/-! ## Configuration and enable commands -/

theorem exec_setMaxSpeed (v : Word) (s : State) :
    exec (.setMaxSpeed v) s = .next (if v = 0#32 then raiseFault .cfgValue s else s.setVmax v) := rfl

theorem exec_setAccel (v : Word) (s : State) :
    exec (.setAccel v) s = .next (if v = 0#32 then raiseFault .cfgValue s else s.setAcc v) := rfl

theorem exec_setDecel (v : Word) (s : State) :
    exec (.setDecel v) s = .next (if v = 0#32 then raiseFault .cfgValue s else s.setDec v) := rfl

theorem exec_enable (s : State) : exec .enable s = .next (s.setEn true) := rfl

theorem exec_disable (s : State) : exec .disable s = .next (s.setEn false) := rfl

/-- Settles O16: the three setters. -/
theorem limitSetterResults : Obligations.LimitSetterResults :=
  fun v s => ⟨exec_setMaxSpeed v s, exec_setAccel v s, exec_setDecel v s⟩

/-- Settles O17: one flag each. -/
theorem enableDisableResult : Obligations.EnableDisableResult :=
  fun s => ⟨exec_enable s, exec_disable s⟩

/-! ## Move, stop and home commands -/

theorem exec_estop (s : State) : exec .estop s = .next ((haltMotion s).setEn false) := rfl

theorem exec_setHome (s : State) : exec .setHome s = .next (s.setPos 0#32) := rfl

/-- Settles O20: both start a move, which no target of 32 bits refuses. -/
theorem moveToAndGoHomeResult : Obligations.MoveToAndGoHomeResult :=
  fun p s => ⟨exec_moveTo p s, exec_goHome s⟩

/-- R5, R91: the pattern of the exact sum is the sum modulo 2^32. -/
theorem u32_add_toInt (v w : Word) : u32 (v.toInt + w.toInt) = v + w := by
  rw [u32, BitVec.ofInt_add, BitVec.ofInt_toInt, BitVec.ofInt_toInt]

/-- R91 with the refusal written as the two ways to leave the range. -/
theorem startMoveTo_eq (n : Int) (s : State) :
    startMoveTo n s = if n < -2147483648 ∨ 2147483647 < n then raiseFault .range s else startMove (u32 n) s := by
  obtain ⟨hfits, heq⟩ | ⟨hfits, heq⟩ := startMoveTo_cases n s
  · rw [heq, if_neg (by omega)]
  · rw [heq, if_pos (by omega)]

/-- R92, R93 likewise, for the step count and for the target. -/
theorem rotateBySteps_eq (n : Int) (s : State) :
    rotateBySteps n s =
      if n < -2147483648 ∨ 2147483647 < n ∨ s.pos.toInt + n < -2147483648 ∨ 2147483647 < s.pos.toInt + n
      then raiseFault .range s else startMove (u32 (s.pos.toInt + n)) s := by
  rw [← s32_eq_toInt]
  obtain ⟨hfits, heq⟩ | ⟨hfits, heq⟩ := rotateBySteps_cases n s
  · rw [heq, if_neg (by omega)]
  · rw [heq, if_pos (by omega)]

/-- Settles O21: `startMoveTo_eq` at `POS + d`. -/
theorem moveRelResult : Obligations.MoveRelResult := by
  intro d s
  rw [exec_moveRel, s32_eq_toInt, s32_eq_toInt, startMoveTo_eq, u32_add_toInt]
  rfl

/-- Settles O22: `rotateBySteps_eq` at the step count in degrees. -/
theorem rotateDegResult : Obligations.RotateDegResult := by
  intro d s steps
  rw [exec_rotateDeg, degreeSteps_eq_tdiv, rotateBySteps_eq]
  rfl

/-- Settles O23: `rotateBySteps_eq` at the step count in revolutions. -/
theorem rotateRevResult : Obligations.RotateRevResult := by
  intro d s steps
  rw [exec_rotateRev, revolutionSteps_eq_tdiv, rotateBySteps_eq]
  rfl

/-- R5: the quotient truncated toward zero is never farther from 0 than the exact one, less than 1 nearer, and has its sign. -/
theorem tdiv_truncates (n : Int) {q : Nat} (hq : 0 < q) :
    q * (n.tdiv q).natAbs ≤ n.natAbs ∧ n.natAbs < q * ((n.tdiv q).natAbs + 1)
      ∧ (0 < n.tdiv q → 0 < n) ∧ (n.tdiv q < 0 → n < 0) := by
  have habs : (n.tdiv q).natAbs = n.natAbs / q := by
    rw [Int.natAbs_tdiv, Int.natAbs_natCast]; rfl
  rw [habs]
  refine ⟨Nat.mul_div_le _ _, Nat.lt_mul_div_succ _ hq, fun h => ?_, fun h => ?_⟩
  · by_contra! hn
    have hneg := Int.tdiv_nonneg (Int.neg_nonneg.2 hn) (Int.natCast_nonneg q)
    rw [Int.neg_tdiv] at hneg
    omega
  · by_contra! hn
    exact absurd h (not_lt.2 (Int.tdiv_nonneg hn (Int.natCast_nonneg q)))

/-- R92: an angle worth less than one step moves by none. -/
theorem tdiv_eq_zero_of_natAbs_lt {n : Int} {q : Nat} (h : n.natAbs < q) : n.tdiv q = 0 := by
  rw [← Int.natAbs_eq_zero, Int.natAbs_tdiv, Int.natAbs_natCast]
  exact Nat.div_eq_of_lt h

/-- The product of the opposite angle is the opposite product; `INT_MIN` has no opposite. -/
theorem neg_angle_product {d : Word} (hd : d ≠ 0x80000000#32) (spr gear : Word) :
    (-d).toInt * spr.toNat * gear.toNat = -(d.toInt * spr.toNat * gear.toNat) := by
  rw [BitVec.toInt_neg_of_ne_intMin hd, Int.neg_mul, Int.neg_mul]

/-- Settles O25: both conversions are the library's truncating division, by different divisors. -/
theorem angleConversionTruncatesTowardZero : Obligations.AngleConversionTruncatesTowardZero := by
  intro d spr gear n truncates
  rw [degreeSteps_eq_tdiv, degreeSteps_eq_tdiv, revolutionSteps_eq_tdiv, revolutionSteps_eq_tdiv]
  refine ⟨⟨tdiv_truncates n (by decide), tdiv_truncates n (by decide)⟩, tdiv_eq_zero_of_natAbs_lt,
    tdiv_eq_zero_of_natAbs_lt, fun hd => ?_⟩
  rw [neg_angle_product hd, Int.neg_tdiv, Int.neg_tdiv]
  exact ⟨rfl, rfl⟩

/-- Settles O26: the halt, with and without `EN`. -/
theorem stopAndEstopResult : Obligations.StopAndEstopResult :=
  fun s => ⟨exec_stop s, exec_estop s⟩

/-- Settles O27: from position 0 the distance to go is the target. -/
theorem setHomeResult : Obligations.SetHomeResult := by
  refine fun s => ⟨exec_setHome s, (distToGo_eq_toInt _).trans ?_⟩
  exact Int.sub_zero _

/-- Settles O28: each composition has the same common end. -/
theorem compositionsHaveTheSameEffect : Obligations.CompositionsHaveTheSameEffect := by
  refine ⟨fun s t h => ?_, fun s => ?_, fun d p s hp => ?_⟩
  · obtain rfl := Host.Outcome.next.inj ((exec_stop s).symm.trans h)
    exact exec_estop s
  · rw [exec_goHome, exec_moveTo]
  · rw [exec_moveRel, exec_moveTo, s32_eq_toInt, s32_eq_toInt, ← hp, ← s32_eq_toInt, startMoveTo_s32]

/-! ## Queries -/

theorem exec_getDist (s : State) : exec .getDist s = .next (respond (sext64 (distToGo s)) s) := rfl

theorem exec_getPos (s : State) : exec .getPos s = .next (respond (sext64 (s32 s.pos)) s) := rfl

theorem exec_getSpeed (s : State) : exec .getSpeed s = .next (respond (zext64 s.spd.toNat) s) := rfl

theorem exec_getStatus (s : State) : exec .getStatus s = .next (respond (statusWord s) s) := rfl

/-- Settles O46: the answer is the predicate of R120. -/
theorem isRunningResult : Obligations.IsRunningResult := by
  intro s
  rw [exec_isRunning]
  by_cases h : s.mov = true ∧ s.tgt ≠ s.pos
  · rw [if_pos h, moveInProgress_eq_true.2 ⟨h.1, distToGo_ne_zero.2 h.2⟩]; rfl
  · have hidle : moveInProgress s = false := Bool.eq_false_of_not_eq_true fun h' =>
      h ((moveInProgress_eq_true.1 h').imp_right distToGo_ne_zero.1)
    rw [if_neg h, hidle]; rfl

/-- R13, R121: the distance fits 33 bits, so it is read back whole from 64. -/
theorem toInt_sext64_distToGo (s : State) : (sext64 (distToGo s)).toInt = distToGo s := by
  have ht := s32_le s.tgt
  have ht' := s32_ge s.tgt
  have hp := s32_le s.pos
  have hp' := s32_ge s.pos
  unfold distToGo
  rw [sext64, BitVec.toInt_ofInt, Int.bmod_eq_of_le] <;> omega

/-- Settles O47: three answers of 64 bits. -/
theorem positionAndSpeedQueryResults : Obligations.PositionAndSpeedQueryResults := by
  refine fun s => ⟨⟨_, exec_getDist s, (toInt_sext64_distToGo s).trans (distToGo_eq_toInt s)⟩, ?_, ?_⟩
  · rw [exec_getPos, s32_eq_toInt]; rfl
  · rw [exec_getSpeed, zext64, BitVec.ofNat_toNat]
    exact congrArg _ (congrArg (respond · s) (BitVec.setWidth_eq _))

/-! ### The status word (R24, R124) -/

/-- R25: a phase code is two bits. -/
theorem phaseCode_lt (p : Phase) : phaseCode p < 4 := by
  cases p <;> decide

/-- R24: the status word is stored untruncated. -/
theorem statusWord_toNat (s : State) : (statusWord s).toNat =
    s.en.toNat + 2 * s.mov.toNat + 4 * s.dir.toNat + 16 * phaseCode (phase s) + 256 * s.flt.toNat := by
  have he := Bool.toNat_lt s.en
  have hm := Bool.toNat_lt s.mov
  have hd := Bool.toNat_lt s.dir
  have hp := phaseCode_lt (phase s)
  have hf := s.flt.isLt
  rw [statusWord, BitVec.toNat_ofNat, Nat.mod_eq_of_lt (by omega)]

/-- One bit of a word is a flag where the quotient says so. -/
theorem getLsbD_eq_of_div_mod {v : DWord} {k : Nat} {b : Bool} (h : v.toNat / 2 ^ k % 2 = b.toNat) :
    v.getLsbD k = b := by
  rw [← BitVec.testBit_toNat, Nat.testBit_eq_decide_div_mod_eq, h]
  cases b <;> rfl

/-- A field of a word is a pattern where the quotient says so. -/
theorem extractLsb'_eq_of_div_mod {v : DWord} {k len : Nat} {f : BitVec len} (h : v.toNat / 2 ^ k % 2 ^ len = f.toNat) :
    v.extractLsb' k len = f :=
  BitVec.eq_of_toNat_eq (by rw [BitVec.extractLsb'_toNat, Nat.shiftRight_eq_div_pow, h])

/-- R25: the phase chain in the terms of the registers. -/
theorem ofNat_phaseCode (s : State) : BitVec.ofNat 2 (phaseCode (phase s)) =
    if s.en = false ∨ s.mov = false ∨ s.tgt = s.pos then 0#2
    else if 65536000000000000 * (2 * (s.tgt.toInt - s.pos.toInt).natAbs * s.dec.toNat) ≤ s.spd.toNat ^ 2 then 3#2
    else if 1000000 * s.vmax.toNat ≤ s.spd.toNat then 2#2
    else 1#2 := by
  have hclamp : speedClamp s = 1000000 * s.vmax.toNat := rfl
  simp only [phase, brake_iff, distToGo_eq_zero, hclamp]
  split_ifs <;> rfl

/-- Settles O48: each field is a quotient of the sum of R24. -/
theorem statusWordFields : Obligations.StatusWordFields := by
  intro s
  have hsum := statusWord_toNat s
  have he := Bool.toNat_lt s.en
  have hm := Bool.toNat_lt s.mov
  have hd := Bool.toNat_lt s.dir
  have hp := phaseCode_lt (phase s)
  have hf := s.flt.isLt
  refine ⟨_, exec_getStatus s, getLsbD_eq_of_div_mod (by omega), getLsbD_eq_of_div_mod (by omega),
    getLsbD_eq_of_div_mod (by omega), getLsbD_eq_of_div_mod (by rw [Bool.toNat_false]; omega), ?_,
    extractLsb'_eq_of_div_mod (by rw [BitVec.toNat_ofNat]; omega), extractLsb'_eq_of_div_mod (by omega),
    extractLsb'_eq_of_div_mod (by rw [BitVec.toNat_ofNat]; omega)⟩
  rw [← ofNat_phaseCode]
  exact extractLsb'_eq_of_div_mod (by rw [BitVec.toNat_ofNat]; omega)

end Sys2Proof.Machine

/-! What a step outside reset does to the trace, and to the position of a disabled engine (spec/20_memory.md R46;
spec/95_test_vectors.md X8). -/

namespace Sys2Proof.Machine

/-- R46: a command keeps the trace, or it is the poll that steps. -/
theorem exec_events {i : Instr} {s t : State} (h : exec i s = .next t) :
    t.evt = s.evt ∨ t.evt = s.evt ++ [.pulse] ∨ t.evt = s.evt ++ [.setDir t.dir, .pulse] := by
  cases exec_effect h with
  | steps hacts =>
    rw [takeStep_evt, takeStep_dir]
    split
    · exact .inr (.inl rfl)
    · exact .inr (.inr rfl)
  | _ => exact .inl rfl

/-- Settles O56: a command by `exec_events`; neither an illegal word nor an input change issues an event. -/
theorem eventTraceOnlyGrows : Obligations.EventTraceOnlyGrows := by
  intro s t h hs ht
  obtain ⟨-, ⟨i, -, hexec⟩ | ⟨op, -, rfl⟩⟩ | ⟨-, rfl⟩ := step_cases h
  · exact exec_events (s := acceptCommand s) hexec
  · exact .inl rfl
  · obtain ⟨p, w, env, heq⟩ := awaitInput_of_stays_released hs ht
    rw [heq]
    exact .inl rfl

/-- X8: a disabled engine polls nothing; of the other commands `SET_HOME` alone writes `POS` and `ENABLE` alone sets `EN`. -/
theorem exec_of_disabled {i : Instr} {s t : State} (hen : s.en = false) (h : exec i s = .next t) :
    (t.pos = s.pos ∨ i = .setHome) ∧ (t.en = false ∨ i = .enable) := by
  cases exec_effect h with
  | setHome => exact ⟨.inr rfl, .inl hen⟩
  | enable => exact ⟨.inl rfl, .inr rfl⟩
  | disable | estop => exact ⟨.inl rfl, .inl rfl⟩
  | steps hacts =>
    obtain ⟨hacting, -, -, -⟩ := hacts
    rw [hen] at hacting
    cases hacting
  | _ => exact ⟨.inl rfl, .inl hen⟩

/-- Settles O57: a transferred word is fetched, and what its command does is `exec_of_disabled`; other steps write no register
but `FLT`. -/
theorem disabledEngineHoldsItsPosition : Obligations.DisabledEngineHoldsItsPosition := by
  intro s t h hen hs ht
  obtain ⟨⟨hv, hr⟩, ⟨i, hd, hexec⟩ | ⟨op, -, rfl⟩⟩ | ⟨-, rfl⟩ := step_cases h
  · have hfetch : fetch s = some s.ports.cmdWord := fetch_eq_some.2 ⟨hv, hr, rfl⟩
    obtain ⟨hpos, hset⟩ := exec_of_disabled (s := acceptCommand s) hen hexec
    exact ⟨hpos.imp_right fun hi => ⟨_, hfetch, by rw [hd, hi]⟩,
      hset.imp_right fun hi => ⟨_, hfetch, by rw [hd, hi]⟩⟩
  · exact ⟨.inl rfl, .inl hen⟩
  · obtain ⟨p, w, env, heq⟩ := awaitInput_of_stays_released hs ht
    rw [heq]
    exact ⟨.inl rfl, .inl hen⟩

end Sys2Proof.Machine
